-- ==== Sys2Proof/Word.lean ====
section
/-! DEFINITION. The word types of the block (00_scope.md R5, 20_memory.md R45).

Only the quantities the spec gives a width to are bit vectors.
Cycle counts, `countdown` and `acc` are integers (10_state.md R11, R19, R21). -/

namespace Sys2Proof

/-- A payload: "raw register byte", 8 bits (30_encoding.md R64). -/
abbrev Byte := BitVec 8

/-- One slot of the output buffer, signed 16 bits (20_memory.md R42). -/
abbrev Sample := BitVec 16

end Sys2Proof
end

