-- ==== Sys2Proof/Config.lean ====
section
/-! DEFINITION. The constants of a device instance (00_scope.md R5, 70_reset_and_hazards.md R211):
the fixed numbers, the configuration with its constraints, and the configuration of `State.reset`,
whose OPEN parameters are opaque constants. -/

namespace Sys2Proof

/-- "the fixed audio sample rate (44100)" (41_tick_accumulator.md R100); no parameter. -/
def sampleRate : Nat := 44100

/-- `W_CYC`, the width of cycle counts (decision D3; log entry 9). -/
abbrev cycleWidth : Nat := 64

/-- `W_LEN`, the width of the buffer length (decision D27; log entry 9). -/
abbrev lengthWidth : Nat := 32

/-- The choice of the parameter `DECODE` (decision D20): the spec's default, or another decode, named by a number.
What another decode does is OPEN within the contract: `Machine.openDecoder` (log entry 28). -/
inductive DecodeChoice where
  | standard
  | other (name : Nat)
deriving DecidableEq, Repr

/-- The parameters of 00_scope.md R5 as plain data, before their constraints are checked. -/
structure Params where
  /-- `CHIP_CLOCK`, "chip clock rate", in ticks per second. -/
  chipClock : Nat
  /-- `W_SR`, "shift-register bit width". -/
  srWidth : Nat
  /-- `TAP_MASK`, "tap bitmask". -/
  tapMask : Nat
  /-- `SR_INIT`, the seed of the shift register. -/
  srInit : Nat
  /-- `NOISE_PRESET[0..3]`; entry 3 is carried and never read (decision D9). -/
  noisePreset : Vector Nat 4
  /-- `MIX_SCALE`, the mixer's linear factor. -/
  mixScale : Nat
  /-- `PARITY_ACTIVE`, the phase of `tickParity` that lets a shift through. -/
  parityActive : BitVec 1
  /-- `QUEUE_DEPTH`: `none` is the unbounded queue of decision D19. -/
  queueDepth : Option Nat
  /-- `DECODE`, the register decode. -/
  decode : DecodeChoice
deriving DecidableEq, Repr

/-- The constraints a configuration must meet (00_scope.md R5, decision D26). That of `DECODE`, the contract of
45_register_write.md, is met by every name: `Machine.Decoder` carries its proof. -/
abbrev Params.Valid (p : Params) : Prop :=
  1 ≤ p.chipClock ∧ 1 ≤ p.srWidth ∧ p.tapMask < 2 ^ p.srWidth ∧ p.srInit < 2 ^ p.srWidth ∧
    1 ≤ p.mixScale ∧ 60 * p.mixScale ≤ 32767

/-- A configuration: parameters that meet the constraints. One outside them cannot be built, which is
how the model refuses it (70_reset_and_hazards.md R211; log entry 3). -/
structure Config extends Params where
  valid : toParams.Valid
deriving DecidableEq, Repr

/-- The check of 70_reset_and_hazards.md R211: parameters outside the constraints give no device. -/
def Config.ofParams (p : Params) : Option Config :=
  if h : p.Valid then some ⟨p, h⟩ else none

/-- `max(1023, NOISE_PRESET[0..2])`, the largest noise reload value (10_state.md R11). -/
def Config.maxNoiseReload (c : Config) : Nat :=
  max 1023 (max c.noisePreset[0] (max c.noisePreset[1] c.noisePreset[2]))

/-- OPEN: `CHIP_CLOCK - 1` of the device (decision D23). -/
opaque Config.openChipClockPred : Nat

/-- OPEN: `W_SR - 1` of the device (decision D26). -/
opaque Config.openSrWidthPred : Nat

/-- OPEN: a number whose residue modulo `2^W_SR` is `TAP_MASK` (decision D26). -/
opaque Config.openTapMask : Nat

/-- OPEN: a number whose residue modulo `2^W_SR` is `SR_INIT` (decision D11). -/
opaque Config.openSrInit : Nat

/-- OPEN: the four noise presets (decision D9). -/
opaque Config.openNoisePreset : Vector Nat 4

/-- The configuration of the device that `State.reset` constructs: every OPEN parameter is an opaque
constant within its constraint, and the parameters with a default have it: `MIX_SCALE = 512` (D14),
`PARITY_ACTIVE = 1` (D7), an unbounded queue (D19), the default decode (D20). Log entry 4. -/
def Config.device : Config where
  chipClock := Config.openChipClockPred + 1
  srWidth := Config.openSrWidthPred + 1
  tapMask := Config.openTapMask % 2 ^ (Config.openSrWidthPred + 1)
  srInit := Config.openSrInit % 2 ^ (Config.openSrWidthPred + 1)
  noisePreset := Config.openNoisePreset
  mixScale := 512
  parityActive := 1
  queueDepth := none
  decode := .standard
  valid := ⟨Nat.le_add_left .., Nat.le_add_left .., Nat.mod_lt _ (Nat.two_pow_pos _),
    Nat.mod_lt _ (Nat.two_pow_pos _), by decide, by decide⟩

end Sys2Proof
end

