-- ==== Sys2Proof/Syntax.lean ====
section
/-! DEFINITION. The syntax: one constructor of `Instr` per row of spec/opcode_table.json, the wires a
host command and a payload byte travel on (30_encoding.md R61, R64), and the assembler's lines
(30_encoding.md R72, R73). -/

namespace Sys2Proof

/-- The operations of spec/opcode_table.json: three host commands and nine payload forms.
Bits that are ignored (30_encoding.md R61, R69) are kept as fields, so that no bit of an encoding is lost. -/
inductive Instr where
  /-- `RESET`, selector `1x`; `op` is the ignored command selector under the reset line (R61, R210). -/
  | reset (op : BitVec 1)
  /-- `ENQ ts, payload` (R80). -/
  | enq (ts : Nat) (payload : Byte)
  /-- `GEN len, now` with its operand `present` (R82). -/
  | gen (present : BitVec 1) (len now : Nat)
  /-- `LTONE0 d4` (R157). -/
  | ltone0 (d4 : BitVec 4)
  /-- `LATT0 d4` (R161). -/
  | latt0 (d4 : BitVec 4)
  /-- `LTONE1 d4` (R158). -/
  | ltone1 (d4 : BitVec 4)
  /-- `LATT1 d4` (R162). -/
  | latt1 (d4 : BitVec 4)
  /-- `LTONE2 d4` (R159). -/
  | ltone2 (d4 : BitVec 4)
  /-- `LATT2 d4` (R163). -/
  | latt2 (d4 : BitVec 4)
  /-- `LNOISE d3`; `ignored` is bit 3 of the byte (R160). -/
  | lnoise (ignored : BitVec 1) (d3 : BitVec 3)
  /-- `LATT3 d4` (R164). -/
  | latt3 (d4 : BitVec 4)
  /-- `DATA d6`; `ignored` is bit 6 of the byte (R165). -/
  | data (ignored : BitVec 1) (d6 : BitVec 6)
deriving DecidableEq, Repr

/-- One host command as it reaches the block: a transaction on the lines of 30_encoding.md R61, of which a
command uses those its row names. -/
structure Transaction where
  resetLine : BitVec 1
  op : BitVec 1
  ts : BitVec cycleWidth
  payload : Byte
  present : BitVec 1
  len : BitVec lengthWidth
  now : BitVec cycleWidth
deriving DecidableEq, Repr

/-- What a decoder of the block is given: a host command, or the payload byte of a queue entry.
The two have opcode maps of their own (30_encoding.md R68). -/
inductive Wire where
  | command (t : Transaction)
  | payload (b : Byte)
deriving DecidableEq, Repr

/-- The payload mnemonics of 30_encoding.md R72. -/
inductive PayloadMnemonic where
  | ltone (c : Fin 3) (d : BitVec 4)
  | lnoise (d : BitVec 4)
  | latt (c : Fin 4) (d : BitVec 4)
  | data (d : BitVec 7)
deriving DecidableEq, Repr

/-- The command lines of 30_encoding.md R72. -/
inductive Line where
  | reset
  | enq (ts : BitVec cycleWidth) (byte : Byte)
  | gen (len : BitVec lengthWidth) (now : BitVec cycleWidth)
  | genNobuf (now : BitVec cycleWidth)
deriving DecidableEq, Repr

/-- The pseudo-instructions of 30_encoding.md R73. -/
inductive Pseudo where
  | tone (ts : BitVec cycleWidth) (c : Fin 3) (d : BitVec 10)
  | vol (ts : BitVec cycleWidth) (c : Fin 4) (a : BitVec 4)
  | noise (ts : BitVec cycleWidth) (w : BitVec 1) (r : BitVec 2)
  | silence (ts : BitVec cycleWidth)
deriving DecidableEq, Repr

end Sys2Proof
end

