-- ==== Sys2Proof/WellFormed.lean ====
section
/-! DEFINITION. When an instruction can be put on the wires: its operands fit the widths of
30_encoding.md R61. Every payload form fits by its type. -/

namespace Sys2Proof

/-- Every operand is within the width its format gives it (10_state.md R19, 20_memory.md R45). -/
def Instr.wellFormed : Instr → Bool
  | .enq ts _ => decide (ts < 2 ^ cycleWidth)
  | .gen _ len now => decide (len < 2 ^ lengthWidth) && decide (now < 2 ^ cycleWidth)
  | .reset _ | .ltone0 _ | .ltone1 _ | .ltone2 _ | .lnoise _ _ => true
  | .latt0 _ | .latt1 _ | .latt2 _ | .latt3 _ | .data _ _ => true

/-- The nine forms that a payload byte selects (30_encoding.md R60, second group). -/
def Instr.isPayload : Instr → Bool
  | .reset _ | .enq _ _ | .gen _ _ _ => false
  | .ltone0 _ | .ltone1 _ | .ltone2 _ | .lnoise _ _ => true
  | .latt0 _ | .latt1 _ | .latt2 _ | .latt3 _ | .data _ _ => true

end Sys2Proof
end

