-- ==== Sys2Proof/Decode.lean ====
section
/-! DEFINITION. The decoder and the encoder (30_encoding.md sections 2 to 4).

The decoder of a command and the decoder of a payload are total with nothing to refuse: no selector and no
byte is reserved (30_encoding.md R69, R70). Only a word of the opcode TABLE can be refused, when it has no
row of its width. -/

namespace Sys2Proof

/-- The host-command map (30_encoding.md R61, R68): the reset line overrides any command presented with it. -/
def decodeCommand (t : Transaction) : Instr :=
  if t.resetLine = 1#1 then .reset t.op
  else if t.op = 0#1 then .enq t.ts.toNat t.payload
  else .gen t.present t.len.toNat t.now.toNat

/-- `value and mask = match` (30_encoding.md R68). -/
def matches8 (mask pattern b : Byte) : Bool := b &&& mask == pattern

/-- Bits `[3:0]` of a LATCH byte (30_encoding.md R65). -/
def Byte.d4 (b : Byte) : BitVec 4 := b.extractLsb' 0 4

/-- Bits `[5:0]` of a DATA byte (30_encoding.md R66). -/
def Byte.d6 (b : Byte) : BitVec 6 := b.extractLsb' 0 6

/-- The payload map of 30_encoding.md R68, row by row; what no LATCH row matches has bit 7 clear. -/
def decodePayload (b : Byte) : Instr :=
  if matches8 0xF0 0x80 b then .ltone0 (Byte.d4 b)
  else if matches8 0xF0 0x90 b then .latt0 (Byte.d4 b)
  else if matches8 0xF0 0xA0 b then .ltone1 (Byte.d4 b)
  else if matches8 0xF0 0xB0 b then .latt1 (Byte.d4 b)
  else if matches8 0xF0 0xC0 b then .ltone2 (Byte.d4 b)
  else if matches8 0xF0 0xD0 b then .latt2 (Byte.d4 b)
  else if matches8 0xF0 0xE0 b then .lnoise (b.extractLsb' 3 1) (b.extractLsb' 0 3)
  else if matches8 0xF0 0xF0 b then .latt3 (Byte.d4 b)
  else .data (b.extractLsb' 6 1) (Byte.d6 b)

/-- The decoder of whatever reaches the block. -/
def decode : Wire → Instr
  | .command t => decodeCommand t
  | .payload b => decodePayload b

/-- All lines low: the lines a command does not use. -/
def Transaction.idle : Transaction := ⟨0, 0, 0, 0, 0, 0, 0⟩

/-- The encoder: the wires of a well-formed instruction (30_encoding.md R61, R65, R66, R68). -/
def encode : Instr → Wire
  | .reset op => .command { Transaction.idle with resetLine := 1, op := op }
  | .enq ts payload => .command { Transaction.idle with ts := BitVec.ofNat _ ts, payload := payload }
  | .gen present len now =>
    .command { Transaction.idle with
      op := 1, present := present, len := BitVec.ofNat _ len, now := BitVec.ofNat _ now }
  | .ltone0 d4 => .payload (0x8#4 ++ d4)
  | .latt0 d4 => .payload (0x9#4 ++ d4)
  | .ltone1 d4 => .payload (0xA#4 ++ d4)
  | .latt1 d4 => .payload (0xB#4 ++ d4)
  | .ltone2 d4 => .payload (0xC#4 ++ d4)
  | .latt2 d4 => .payload (0xD#4 ++ d4)
  | .lnoise ignored d3 => .payload (0xE#4 ++ (ignored ++ d3))
  | .latt3 d4 => .payload (0xF#4 ++ d4)
  | .data ignored d6 => .payload (0#1 ++ (ignored ++ d6))

/-- Why a word of the opcode table is refused. -/
inductive DecodeRefusal where
  /-- The width is no row's width: selector rows have 2 bits, payload rows 8. -/
  | noRowOfThisWidth
  /-- The word has a bit above its width. -/
  | wordTooWide
deriving DecidableEq, Repr

/-- The wires that a word of spec/opcode_table.json stands for, with operand lines of zeros. Rows of fewer
than 8 bits are selectors. The table has two maps, and a 2-bit selector rounded up to one byte reads like a
payload byte below 4: such a word is taken as the selector (log entry 6). -/
def tableWire (nbits w : Nat) : Except DecodeRefusal Wire :=
  if nbits < 2 ∨ 8 < nbits then .error .noRowOfThisWidth
  else if 2 ^ nbits ≤ w then .error .wordTooWide
  else if w < 4 then
    .ok (.command { Transaction.idle with resetLine := BitVec.ofNat 1 (w / 2), op := BitVec.ofNat 1 w })
  else if nbits < 8 then .error .wordTooWide
  else .ok (.payload (BitVec.ofNat 8 w))

/-- The instruction the decoder reads from a word numbered as spec/opcode_table.json numbers it. -/
def decodeTableWord (nbits w : Nat) : Option Instr :=
  match tableWire nbits w with
  | .ok wire => some (decode wire)
  | .error _ => none

end Sys2Proof
end

