-- ==== Sys2Proof/Machine/State.lean ====
section
/-! DEFINITION. The state of the block as plain data (10_state.md), the reasons a step can stop, and the
state after reset (10_state.md R34, 70_reset_and_hazards.md R210). -/

namespace Sys2Proof.Machine

/-- The three fault codes of 60_exceptions.md R180. -/
inductive FaultCode where
  /-- Code 1: "odd/absent output buffer" (R181). -/
  | buffer
  /-- Code 2: "out-of-chronological-order enqueued write" (R183). -/
  | order
  /-- Code 3: "negative elapsed-cycle window" (R182). -/
  | window
deriving DecidableEq, Repr

/-- A Pending Write "`(timestamp: CPU-cycle count, payload: raw register byte)`" (10_state.md R17). -/
structure Pending where
  ts : Nat
  payload : Byte
deriving DecidableEq, Repr

/-- "Frame: one stereo sample pair in the output buffer" (00_scope.md R7, 20_memory.md R42). -/
structure Frame where
  left : Sample
  right : Sample
deriving DecidableEq, Repr

/-- The outcome a command returns to its caller (60_exceptions.md R184, R185). -/
inductive Response where
  /-- The command did its work. -/
  | completed
  /-- The command raised this fault. -/
  | raised (code : FaultCode)
  /-- The command was turned away because this fault had been recorded. -/
  | turnedAway (code : FaultCode)
deriving DecidableEq, Repr

/-- The registers a register write can change (10_state.md R31) and the decode's own state (10_state.md R22). The contract of 45_register_write.md R151, R152 lets a decode write these and nothing else. -/
structure Regs where
  /-- R10: tone reload values. -/
  divisor : Vector (BitVec 10) 3
  /-- R13: 0 loudest, 15 silent. -/
  attenuation : Vector (BitVec 4) 4
  /-- R14: `rate = [1:0]`, `ntype = [2]`. -/
  controlBits : BitVec 3
  /-- R22: the latched channel. -/
  latchCh : BitVec 2
  /-- R22: the latched register kind, 1 attenuation. -/
  latchType : BitVec 1
  /-- R22, 45_register_write.md R151: the own state of a decode other than the default, coded as a number with 0 at
  reset; the default decode neither reads nor writes it (log entry 28). -/
  ownState : Nat
deriving DecidableEq, Repr, Inhabited

/-- The block. `cfg` holds the constants of the instance and is written by nothing (log entry 3).
`commands`, `out` and `response` are the model's own fields for what reaches the block and what it hands
back (log entries 1 and 5); no operation of the block reads `out` or `response`. -/
structure State where
  cfg : Config
  regs : Regs
  /-- R11: ticks remaining, channels 0 to 2 tone, 3 noise. -/
  countdown : Vector Int 4
  /-- R12: the current output level of each channel. -/
  level : Vector (BitVec 1) 4
  /-- R15: a `W_SR`-bit unsigned value; `Inv` states the bound (log entry 11). -/
  shiftRegister : Nat
  /-- R16: toggles on every expiry of the noise countdown. -/
  tickParity : BitVec 1
  /-- R17: pending writes, oldest first. -/
  queue : List Pending
  /-- R18: the timestamp of the most recently accepted `ENQ`. -/
  lastTs : Option Nat
  /-- R19: the counter as the most recent `GEN` that did not fault read it. -/
  lastSampled : Nat
  /-- R21: the Chip-Tick Accumulator. -/
  acc : Int
  /-- R23: `none` is 0, "no fault has been recorded". -/
  faulted : Option FaultCode
  /-- Host commands that have arrived, in the order they take the critical section (R46). -/
  commands : List Transaction
  /-- The frames the most recent command emitted, in index order (R42). -/
  out : List Frame
  /-- The outcome of the most recent command. -/
  response : Response
deriving DecidableEq, Repr

/-- What stops the machine for good: nothing. The spec's three faults are states the block goes on from, by
`RESET` (60_exceptions.md R184, R185), so they are next states and this type has no constructor (log entry 13). -/
inductive Fault where
deriving DecidableEq, Repr

/-- Why a step has no meaning. -/
inductive Refusal where
  /-- Raised by an arm of `exec` for an instruction without a meaning; safe. No arm does. -/
  | notModelled (mnemonic : String)
  /-- Raised by `ENQ` on a finite queue that is full: "an `ENQ` on a full queue is outside the spec: `refuse` to
  model it" (93_implementation_defined.md U6); safe. The queue of `State.reset` is unbounded and never raises it. -/
  | queueOverflow
deriving DecidableEq, Repr

/-- The register part of 10_state.md R34. -/
def Regs.reset : Regs where
  divisor := #v[0, 0, 0]
  attenuation := #v[0, 0, 0, 0]
  controlBits := 0
  latchCh := 0
  latchType := 0
  ownState := 0

/-- The state that constructing a device with configuration `cfg` gives (70_reset_and_hazards.md R210,
10_state.md R34). -/
def State.resetWith (cfg : Config) : State where
  cfg := cfg
  regs := Regs.reset
  countdown := #v[0, 0, 0, 0]
  level := #v[0, 0, 0, BitVec.ofNat 1 cfg.srInit]
  shiftRegister := cfg.srInit
  tickParity := 0
  queue := []
  lastTs := none
  lastSampled := 0
  acc := 0
  faulted := none
  commands := []
  out := []
  response := .completed

/-- The machine right after reset, for the device whose OPEN parameters are unknown (log entry 4). -/
def State.reset : State := State.resetWith Config.device

end Sys2Proof.Machine
end

