-- ==== Sys2Proof/Machine/Operands.lean ====
section
/-! DEFINITION. Operand forms: the fields of a payload byte (30_encoding.md R65, R66), the register a selector
names (10_state.md R31), the fields of `controlBits` (10_state.md R14), and the immediate assembly of
30_encoding.md R67. -/

namespace Sys2Proof.Machine

/-- The registers of 10_state.md R31. -/
inductive RegName where
  | divisor (c : Fin 3)
  | control
  | attenuation (c : Fin 4)
deriving DecidableEq, Repr

/-- Selector column `(ch, type)` of 10_state.md R31. -/
def selectReg (ch : BitVec 2) (type : BitVec 1) : RegName :=
  if type = 1#1 then .attenuation ch.toFin
  else if h : ch.toNat < 3 then .divisor ⟨ch.toNat, h⟩
  else .control

/-- `payload[7]`: 1 selects format LATCH, 0 format DATA. -/
def isLatch (b : Byte) : Bool := b.extractLsb' 7 1 == 1#1

/-- `ch = payload[6:5]` of a LATCH byte. -/
def latchChannel (b : Byte) : BitVec 2 := b.extractLsb' 5 2

/-- `type = payload[4]` of a LATCH byte. -/
def latchKind (b : Byte) : BitVec 1 := b.extractLsb' 4 1

/-- `rate = controlBits[1:0]`. -/
def Regs.rate (r : Regs) : BitVec 2 := r.controlBits.extractLsb' 0 2

/-- `ntype = controlBits[2]`, 1 white, 0 periodic. -/
def Regs.ntype (r : Regs) : BitVec 1 := r.controlBits.extractLsb' 2 1

/-- Divisor bits `[3:0] <- d4`, bits `[9:4]` kept (30_encoding.md R67). -/
def withLowNibble (old : BitVec 10) (d4 : BitVec 4) : BitVec 10 := old.extractLsb' 4 6 ++ d4

/-- Divisor bits `[9:4] <- d6`, bits `[3:0]` kept (30_encoding.md R67). -/
def withHighSix (old : BitVec 10) (d6 : BitVec 6) : BitVec 10 := d6 ++ old.extractLsb' 0 4

end Sys2Proof.Machine
end

