-- ==== Sys2Proof/Machine/Ops.lean ====
section
/-! DEFINITION. The named operations over the state: register writes (10_state.md R31), the queue primitives
(00_scope.md R6), `Out` (20_memory.md R42), raising a fault and turning a command away (60_exceptions.md R184,
R185), and how a command is fetched and placed. -/

namespace Sys2Proof.Machine

/-! ## Registers -/

/-- `latchCh <- ch; latchType <- type` (45_register_write.md R156). -/
def Regs.setLatch (r : Regs) (ch : BitVec 2) (type : BitVec 1) : Regs :=
  { r with latchCh := ch, latchType := type }

/-- `divisor[c] <- divisor[c][9:4] ++ d4`. -/
def Regs.setDivisorLow (r : Regs) (c : Fin 3) (d4 : BitVec 4) : Regs :=
  { r with divisor := r.divisor.set c (withLowNibble r.divisor[c] d4) }

/-- `divisor[c] <- d6 ++ divisor[c][3:0]`. -/
def Regs.setDivisorHigh (r : Regs) (c : Fin 3) (d6 : BitVec 6) : Regs :=
  { r with divisor := r.divisor.set c (withHighSix r.divisor[c] d6) }

/-- `attenuation[c] <- a`. -/
def Regs.setAttenuation (r : Regs) (c : Fin 4) (a : BitVec 4) : Regs :=
  { r with attenuation := r.attenuation.set c a }

/-- `controlBits <- v`. -/
def Regs.setControl (r : Regs) (v : BitVec 3) : Regs := { r with controlBits := v }

/-! ## Working state -/

/-- Replace the registers, as a decode does (45_register_write.md R151). -/
def State.setRegs (s : State) (r : Regs) : State := { s with regs := r }

/-- `countdown[c] <- v`. -/
def State.setCountdown (s : State) (c : Fin 4) (v : Int) : State :=
  { s with countdown := s.countdown.set c v }

/-- `level[c] <- v`. -/
def State.setLevel (s : State) (c : Fin 4) (v : BitVec 1) : State :=
  { s with level := s.level.set c v }

/-- `shiftRegister <- v`. -/
def State.setShiftRegister (s : State) (v : Nat) : State := { s with shiftRegister := v }

/-- `tickParity <- v`. -/
def State.setTickParity (s : State) (v : BitVec 1) : State := { s with tickParity := v }

/-- `acc <- v`. -/
def State.setAcc (s : State) (v : Int) : State := { s with acc := v }

/-- `lastSampled <- now` (40_write_queue_sync.md R91). -/
def State.setLastSampled (s : State) (now : Nat) : State := { s with lastSampled := now }

/-! ## The queue -/

/-- Replace the queue: what a drain leaves of it. -/
def State.setQueue (s : State) (q : List Pending) : State := { s with queue := q }

/-- `QPush(ts, payload); lastTs <- ts`: append a new youngest entry (40_write_queue_sync.md R80). -/
def State.push (s : State) (ts : Nat) (payload : Byte) : State :=
  { s with queue := s.queue ++ [⟨ts, payload⟩], lastTs := some ts }

/-- The queue of a finite implementation holds `QUEUE_DEPTH` entries (93_implementation_defined.md U6). -/
def State.queueFull (s : State) : Bool :=
  match s.cfg.queueDepth with
  | none => false
  | some depth => decide (depth ≤ s.queue.length)

/-! ## Output, faults, outcomes -/

/-- `Out(i, L, R)`: the next frame of the current `GEN` (00_scope.md R6). -/
def State.emit (s : State) (left right : Sample) : State :=
  { s with out := s.out ++ [⟨left, right⟩] }

/-- The slots of the buffer a list of frames fills: frame `i` in slots `2i` and `2i + 1` (20_memory.md R42). -/
def slots : List Frame → List Sample
  | [] => []
  | f :: fs => f.left :: f.right :: slots fs

/-- A command that passes its checks begins: no frame emitted yet, and it will complete. -/
def State.begin (s : State) : State := { s with out := [], response := .completed }

/-- `raise Fault(code)`: the command ends, `faulted <- code`, and the code is its outcome; it changes no other
state and emits no frame (60_exceptions.md R184). The one operation that enters a fault. -/
def State.raise (s : State) (code : FaultCode) : State :=
  { s with faulted := some code, out := [], response := .raised code }

/-- A command issued while `faulted != 0`: no state changes, no frame, `faulted` is the outcome
(60_exceptions.md R185). -/
def State.turnAway (s : State) (code : FaultCode) : State :=
  { s with out := [], response := .turnedAway code }

/-- The codes of 60_exceptions.md R180. -/
def FaultCode.code : FaultCode → Nat
  | .buffer => 1
  | .order => 2
  | .window => 3

/-- The value of `faulted` as 10_state.md R23 numbers it. -/
def State.faultStatus (s : State) : Nat :=
  match s.faulted with
  | none => 0
  | some c => c.code

/-- The outcome a caller sees: 0 without a fault, else the code (60_exceptions.md R184, R185). -/
def Response.code : Response → Nat
  | .completed => 0
  | .raised c => c.code
  | .turnedAway c => c.code

/-! ## Fetching a command -/

/-- The next command that takes the critical section (20_memory.md R46), and the state without it. -/
def State.nextCommand (s : State) : Option (Transaction × State) :=
  match s.commands with
  | [] => none
  | t :: rest => some (t, { s with commands := rest })

/-- A `GEN` of no frame at the present counter value: it drains the queue and does nothing else (R93). -/
def drainingCommand (s : State) : Transaction :=
  { Transaction.idle with op := 1, present := 1, now := BitVec.ofNat _ s.lastSampled }

/-- Put a wire where the next step fetches. A command goes to the head of `commands`. A payload form is fetched
from the queue by a draining `GEN` and in no other way (45_register_write.md R150), so its byte becomes the one
entry of the queue, no fault is recorded, and a draining `GEN` comes next (log entry 7). -/
def State.placeWire (s : State) : Wire → State
  | .command t => { s with commands := t :: s.commands }
  | .payload b =>
    { s with
      commands := drainingCommand s :: s.commands
      queue := [⟨s.lastTs.getD 0, b⟩]
      lastTs := some (s.lastTs.getD 0)
      faulted := none }

end Sys2Proof.Machine
end

