-- ==== Sys2Proof/Machine/Reset.lean ====
section
/-! DEFINITION. `RESET` (70_reset_and_hazards.md R210): chip construction, and the only way on after a fault
(60_exceptions.md R188). -/

namespace Sys2Proof.Machine

/-- Construct the chip again: every state element takes its reset value. The configuration is that of the
instance (70_reset_and_hazards.md R211), and the commands that have not yet taken the critical section are outside
the block (log entry 12). -/
def State.construct (s : State) : State := { State.resetWith s.cfg with commands := s.commands }

/-- `RESET`: accepted in every state; pending writes are discarded, not applied; no frame is emitted. -/
def execReset (s : State) : Host.Outcome State Fault Refusal := .next s.construct

end Sys2Proof.Machine
end

