-- ==== Sys2Proof/Machine/Flags.lean ====
section
/-! DEFINITION. The one-bit computations: expiry of a countdown (42_tone.md R110), the flip of a level, the
parity gate (43_noise.md R123) and the parity fold (43_noise.md R126). The block has no condition codes
(10_state.md R30). -/

namespace Sys2Proof.Machine

/-- The expiry test of decision D5: `countdown[c] <= 0` at the start of the channel's step. -/
def State.expired (s : State) (c : Fin 4) : Bool := decide (s.countdown[c] ≤ 0)

/-- `level[c] <- level[c] xor 1`. -/
def State.flipLevel (s : State) (c : Fin 4) : State := s.setLevel c (s.level[c] ^^^ 1#1)

/-- `countdown[c] <- countdown[c] - 1`. -/
def State.decrement (s : State) (c : Fin 4) : State := s.setCountdown c (s.countdown[c] - 1)

/-- `tickParity <- tickParity xor 1`. -/
def State.toggleParity (s : State) : State := s.setTickParity (s.tickParity ^^^ 1#1)

/-- The gate lets a shift through in the active phase of `tickParity` (43_noise.md R123). -/
def State.parityGateOpen (s : State) : Bool := s.tickParity == s.cfg.parityActive

/-- `popcount(v)`: the number of 1 bits among the low `w` bits of `v` (00_scope.md R6). -/
def popcount : (w v : Nat) → Nat
  | 0, _ => 0
  | w + 1, v => popcount w v + (v.testBit w).toNat

/-- `FOLD(v) = popcount(v) mod 2` on a `w`-bit value, the normative form (43_noise.md R126). -/
def fold (w v : Nat) : BitVec 1 := BitVec.ofNat 1 (popcount w v % 2)

/-- "successive halving-and-XOR reduction": `v <- v xor (v >> h)` for `h = 2^(k-1), …, 2, 1` (43_noise.md R126). -/
def halve : (k v : Nat) → Nat
  | 0, v => v
  | k + 1, v => halve k (v ^^^ (v >>> 2 ^ k))

/-- The fold by halving: `P = 2^k` is the least power of two `>= w`, and the result is `v[0]`.
The machine uses `fold`; the two are stated equal. -/
def foldByHalving (w v : Nat) : BitVec 1 := BitVec.ofNat 1 (halve (Nat.clog 2 w) v)

end Sys2Proof.Machine
end

