-- ==== Sys2Proof/Machine/Noise.lean ====
section
/-! DEFINITION. The noise generator (43_noise.md). -/

namespace Sys2Proof.Machine

/-- The channel index of the noise channel. -/
abbrev noiseChannel : Fin 4 := 3

/-- `NOISE_RELOAD()`: presets 0 to 2, and `divisor[2]` "directly" at rate 3 (43_noise.md R122). -/
def State.noiseReload (s : State) : Nat :=
  match s.regs.rate.toNat with
  | 0 => s.cfg.noisePreset[0]
  | 1 => s.cfg.noisePreset[1]
  | 2 => s.cfg.noisePreset[2]
  | _ => s.regs.divisor[2].toNat

/-- The feed bit: parity of the tapped bits for white noise, `shiftRegister[0]` for periodic (43_noise.md R125). -/
def State.feed (s : State) : BitVec 1 :=
  if s.regs.ntype = 1#1 then fold s.cfg.srWidth (s.shiftRegister &&& s.cfg.tapMask)
  else BitVec.ofNat 1 s.shiftRegister

/-- Shift right by one and insert the feed bit at the top of a `w`-bit register (43_noise.md R125). -/
def shiftIn (w v : Nat) (feed : BitVec 1) : Nat := (v >>> 1) ||| (feed.toNat <<< (w - 1))

/-- `LFSR_SHIFT()`: shift, then `level[3]` is bit 0 of the new value (43_noise.md R125). -/
def State.lfsrShift (s : State) : State :=
  let v := shiftIn s.cfg.srWidth s.shiftRegister s.feed
  (s.setShiftRegister v).setLevel noiseChannel (BitVec.ofNat 1 v)

/-- The expiry of the noise channel: reload, toggle `tickParity`, and shift if the gate is open for the value just
written (43_noise.md R120, R123). -/
def State.noiseExpire (s : State) : State :=
  let s' := (s.setCountdown noiseChannel s.noiseReload).toggleParity
  if s'.parityGateOpen then s'.lfsrShift else s'

/-- `NOISE_STEP()`: the expiry test, then always decrement (43_noise.md R120). -/
def State.noiseStep (s : State) : State :=
  (if s.expired noiseChannel then s.noiseExpire else s).decrement noiseChannel

end Sys2Proof.Machine
end

