-- ==== Sys2Proof/Machine/Tone.lean ====
section
/-! DEFINITION. The tone generator (42_tone.md). -/

namespace Sys2Proof.Machine

/-- The channel index of a tone channel. -/
abbrev toneChannel (c : Fin 3) : Fin 4 := c.castSucc

/-- `TONE_RELOAD(c)`: `divisor[c]`, with 0 read as 1 (42_tone.md R111). -/
def Regs.toneReload (r : Regs) (c : Fin 3) : Nat :=
  if r.divisor[c] = 0 then 1 else r.divisor[c].toNat

/-- The expiry of a tone channel: flip, then reload (42_tone.md R110). -/
def State.toneExpire (s : State) (c : Fin 3) : State :=
  (s.flipLevel (toneChannel c)).setCountdown (toneChannel c) (s.regs.toneReload c)

/-- `TONE_STEP(c)`: the expiry test, then always decrement (42_tone.md R110; conflict C1, log entry 16). -/
def State.toneStep (s : State) (c : Fin 3) : State :=
  (if s.expired (toneChannel c) then s.toneExpire c else s).decrement (toneChannel c)

end Sys2Proof.Machine
end

