-- ==== Sys2Proof/Machine/Accumulator.lean ====
section
/-! DEFINITION. The chip-tick accumulator (41_tick_accumulator.md). -/

namespace Sys2Proof.Machine

/-- `TICK()`: "exactly one internal chip tick (advancing all four channels)", in the order of
41_tick_accumulator.md R103. -/
def State.tick (s : State) : State :=
  (((s.toneStep 0).toneStep 1).toneStep 2).noiseStep

/-- How many times 44100 is added to `a` until it is not negative: the bound of the loop below. -/
def ticksDue (a : Int) : Nat := ((-a).toNat + (sampleRate - 1)) / sampleRate

/-- `while acc < 0: TICK(); acc <- acc + 44100`, at most `fuel` times (41_tick_accumulator.md R101). -/
def State.tickWhileNegative : (fuel : Nat) → State → State
  | 0, s => s
  | fuel + 1, s =>
    if s.acc < 0 then
      State.tickWhileNegative fuel (s.tick.setAcc (s.tick.acc + sampleRate))
    else s

/-- `acc <- acc - CHIP_CLOCK`. -/
def State.chargeFrame (s : State) : State := s.setAcc (s.acc - s.cfg.chipClock)

/-- `ACC_STEP()`: once per output frame (41_tick_accumulator.md R101). The bound is never what ends the loop:
`accStep_acc_nonneg`. -/
def State.accStep (s : State) : State :=
  State.tickWhileNegative (ticksDue s.chargeFrame.acc) s.chargeFrame

end Sys2Proof.Machine
end

