-- ==== Sys2Proof/Machine/Mixer.lean ====
section
/-! DEFINITION. The mixer (44_mixer.md). -/

namespace Sys2Proof.Machine

/-- "linear weight = `15 − attenuation`" (44_mixer.md R140). -/
def Regs.weight (r : Regs) (c : Fin 4) : Nat := 15 - r.attenuation[c].toNat

/-- `level[c] * (15 - attenuation[c])`. -/
def State.contribution (s : State) (c : Fin 4) : Nat := s.level[c].toNat * s.regs.weight c

/-- The sum over the four channels, 0 to 60 (44_mixer.md R140, R141). -/
def State.mix (s : State) : Nat :=
  s.contribution 0 + s.contribution 1 + s.contribution 2 + s.contribution 3

/-- `MIX()`: `s16(mix * MIX_SCALE)` (44_mixer.md R140). `s16` is always defined here, because the configuration
keeps `60 * MIX_SCALE <= 32767` (44_mixer.md R142). -/
def State.sample (s : State) : Sample := BitVec.ofNat 16 (s.mix * s.cfg.mixScale)

end Sys2Proof.Machine
end

