-- ==== Sys2Proof/Machine/RegisterWrite.lean ====
section
/-! DEFINITION. The register write: the decode as a parameter with its default (45_register_write.md Part 1 and
R155), and the meanings of the nine payload forms (R157 to R165). -/

namespace Sys2Proof

/-- OPEN: what a decode other than the default does (decision D20). Of this constant nothing is known; the device applies
what of it meets the contract, `Machine.openDecoder` (log entry 28). -/
opaque Config.openDecode : Nat → Byte → Machine.Regs → Machine.Regs

end Sys2Proof

namespace Sys2Proof.Machine

/-! ## The contract of a decode -/

/-- The state of the decode's own: the default's latch (10_state.md R22) and that of another decode. -/
def Regs.own (r : Regs) : BitVec 2 × BitVec 1 × Nat := (r.latchCh, r.latchType, r.ownState)

/-- "it reads no state other than its own and the register it updates" (45_register_write.md R154): each register's new
value depends on the decode's own state and on that register's old value; the own state's, on itself. -/
structure Confined (g : Regs → Regs) : Prop where
  own : ∀ r r' : Regs, r.own = r'.own → (g r).own = (g r').own
  divisor : ∀ (r r' : Regs) (c : Fin 3), r.own = r'.own → r.divisor[c] = r'.divisor[c] →
    (g r).divisor[c] = (g r').divisor[c]
  attenuation : ∀ (r r' : Regs) (c : Fin 4), r.own = r'.own → r.attenuation[c] = r'.attenuation[c] →
    (g r).attenuation[c] = (g r').attenuation[c]
  controlBits : ∀ r r' : Regs, r.own = r'.own → r.controlBits = r'.controlBits →
    (g r).controlBits = (g r').controlBits

/-- What 45_register_write.md R154 asks of a decode beyond being a function of the payload and the registers. -/
abbrev DecodeContract (write : Byte → Regs → Regs) : Prop := ∀ b, Confined (write b)

/-- `DECODE`, the parameter of 00_scope.md R5 with its constraint, "contract in 45_register_write.md": a total function
of the payload and of the registers it may write (R151), its own state among them, which can neither block nor fault nor
touch any other state (R152), with the proof that it meets R154. A decode that does not cannot be built, and so is the
decode of no device and no argument of a step. -/
structure Decoder where
  write : Byte → Regs → Regs
  contract : DecodeContract write

theorem Confined.comp {g f : Regs → Regs} (hg : Confined g) (hf : Confined f) : Confined (fun r => g (f r)) where
  own r r' h := hg.own _ _ (hf.own r r' h)
  divisor r r' c h e := hg.divisor _ _ c (hf.own r r' h) (hf.divisor r r' c h e)
  attenuation r r' c h e := hg.attenuation _ _ c (hf.own r r' h) (hf.attenuation r r' c h e)
  controlBits r r' h e := hg.controlBits _ _ (hf.own r r' h) (hf.controlBits r r' h e)

/-- A choice made by the decode's own state among confined writes is confined. -/
theorem Confined.select {α : Type} {g : Regs → α → Regs} {sel : Regs → α} (hg : ∀ n, Confined (fun r => g r n))
    (hs : ∀ r r', r.own = r'.own → sel r = sel r') : Confined (fun r => g r (sel r)) where
  own r r' h := hs r r' h ▸ (hg (sel r)).own r r' h
  divisor r r' c h e := hs r r' h ▸ (hg (sel r)).divisor r r' c h e
  attenuation r r' c h e := hs r r' h ▸ (hg (sel r)).attenuation r r' c h e
  controlBits r r' h e := hs r r' h ▸ (hg (sel r)).controlBits r r' h e

/-- A view of the registers: the decode's own state, and these values for all that a decode may write. -/
def Regs.view (r : Regs) (d : BitVec 10) (a : BitVec 4) (v : BitVec 3) : Regs :=
  { r with divisor := Vector.replicate 3 d, attenuation := Vector.replicate 4 a, controlBits := v }

/-- The part of a function that meets the contract: each register's new value is taken where the function sees the
decode's own state and that register's old value, and no other register. It is the function itself where that meets the
contract (log entry 28). -/
def confine (f : Byte → Regs → Regs) (b : Byte) (r : Regs) : Regs :=
  { f b (r.view 0 0 0) with
    divisor := Vector.ofFn fun c => (f b (r.view r.divisor[c] 0 0)).divisor[c]
    attenuation := Vector.ofFn fun c => (f b (r.view 0 r.attenuation[c] 0)).attenuation[c]
    controlBits := (f b (r.view 0 0 r.controlBits)).controlBits }

/-- A view depends on the decode's own state alone. -/
theorem view_eq {r r' : Regs} (h : r.own = r'.own) : r.view = r'.view := by
  simp only [Regs.own, Prod.mk.injEq] at h
  funext d a v
  simp only [Regs.view, h]

theorem confine_own (f : Byte → Regs → Regs) (b : Byte) (r : Regs) :
    (confine f b r).own = (f b (r.view 0 0 0)).own := rfl

theorem confine_divisor (f : Byte → Regs → Regs) (b : Byte) (r : Regs) (c : Fin 3) :
    (confine f b r).divisor[c] = (f b (r.view r.divisor[c] 0 0)).divisor[c] := by simp [confine]

theorem confine_attenuation (f : Byte → Regs → Regs) (b : Byte) (r : Regs) (c : Fin 4) :
    (confine f b r).attenuation[c] = (f b (r.view 0 r.attenuation[c] 0)).attenuation[c] := by simp [confine]

theorem confine_controlBits (f : Byte → Regs → Regs) (b : Byte) (r : Regs) :
    (confine f b r).controlBits = (f b (r.view 0 0 r.controlBits)).controlBits := rfl

/-- What `confine` answers meets 45_register_write.md R154, whatever the function. -/
theorem confine_contract (f : Byte → Regs → Regs) : DecodeContract (confine f) := fun b => {
  own := fun r r' h => by rw [confine_own, confine_own, view_eq h]
  divisor := fun r r' c h e => by rw [confine_divisor, confine_divisor, view_eq h, e]
  attenuation := fun r r' c h e => by rw [confine_attenuation, confine_attenuation, view_eq h, e]
  controlBits := fun r r' h e => by rw [confine_controlBits, confine_controlBits, view_eq h, e] }

/-- The decode of a device whose decode is not the default: OPEN, within the contract (decision D20). -/
def openDecoder (name : Nat) : Decoder := ⟨confine (Config.openDecode name), confine_contract _⟩

/-! ## The default decode -/

/-- A LATCH byte's write: the low nibble of a divisor, or the whole of another register (R155). -/
def Regs.writeLatched (r : Regs) (d4 : BitVec 4) : RegName → Regs
  | .divisor c => r.setDivisorLow c d4
  | .control => r.setControl (d4.extractLsb' 0 3)
  | .attenuation c => r.setAttenuation c d4

/-- A DATA byte's write: the upper six bits of a divisor, or the low bits of another register (R155). -/
def Regs.writeData (r : Regs) (d6 : BitVec 6) : RegName → Regs
  | .divisor c => r.setDivisorHigh c d6
  | .control => r.setControl (d6.extractLsb' 0 3)
  | .attenuation c => r.setAttenuation c (d6.extractLsb' 0 4)

/-- `DECODE(payload)`, default, as the pseudocode of 45_register_write.md R155 writes it; "the pseudocode above
governs". -/
def defaultWrite (payload : Byte) (r : Regs) : Regs :=
  if isLatch payload then
    (r.setLatch (latchChannel payload) (latchKind payload)).writeLatched (Byte.d4 payload)
      (selectReg (latchChannel payload) (latchKind payload))
  else r.writeData (Byte.d6 payload) (selectReg r.latchCh r.latchType)

theorem setLatch_confined (ch : BitVec 2) (type : BitVec 1) : Confined (fun r => r.setLatch ch type) where
  own r r' h := by simp only [Regs.own, Regs.setLatch, Prod.mk.injEq] at h ⊢; simp [h]
  divisor _ _ _ _ e := e
  attenuation _ _ _ _ e := e
  controlBits _ _ _ e := e

/-- A write of one divisor from its own old value is confined. -/
theorem writeDivisor_confined (c : Fin 3) (v : BitVec 10 → BitVec 10) :
    Confined (fun r => { r with divisor := r.divisor.set c (v r.divisor[c]) }) where
  own _ _ h := h
  divisor r r' c' _ e := by
    simp only [Fin.getElem_fin, Vector.getElem_set] at e ⊢
    split
    · rename_i hc; simp only [hc, e]
    · exact e
  attenuation _ _ _ _ e := e
  controlBits _ _ _ e := e

theorem setAttenuation_confined (c : Fin 4) (a : BitVec 4) : Confined (fun r => r.setAttenuation c a) where
  own _ _ h := h
  divisor _ _ _ _ e := e
  attenuation r r' c' _ e := by
    simp only [Regs.setAttenuation, Fin.getElem_fin, Vector.getElem_set] at e ⊢
    split
    · rfl
    · exact e
  controlBits _ _ _ e := e

theorem setControl_confined (v : BitVec 3) : Confined (fun r => r.setControl v) where
  own _ _ h := h
  divisor _ _ _ _ e := e
  attenuation _ _ _ _ e := e
  controlBits _ _ _ _ := rfl

theorem writeLatched_confined (d4 : BitVec 4) : (n : RegName) → Confined (fun r => r.writeLatched d4 n)
  | .divisor c => writeDivisor_confined c (withLowNibble · d4)
  | .control => setControl_confined _
  | .attenuation c => setAttenuation_confined c d4

theorem writeData_confined (d6 : BitVec 6) : (n : RegName) → Confined (fun r => r.writeData d6 n)
  | .divisor c => writeDivisor_confined c (withHighSix · d6)
  | .control => setControl_confined _
  | .attenuation c => setAttenuation_confined c _

/-- "The default decode meets rule R154" (45_register_write.md R166). -/
theorem defaultWrite_contract : DecodeContract defaultWrite := fun b => by
  unfold defaultWrite
  cases isLatch b
  · exact Confined.select (sel := fun r => selectReg r.latchCh r.latchType) (writeData_confined (Byte.d6 b))
      fun r r' h => by simp only [Regs.own, Prod.mk.injEq] at h; simp only [h]
  · exact (writeLatched_confined _ _).comp (setLatch_confined _ _)

/-- The default decode, a decode by R166. -/
def defaultDecode : Decoder := ⟨defaultWrite, defaultWrite_contract⟩

/-- The `DECODE` of this device (00_scope.md R5): the default, or the OPEN one of its name. -/
def State.decoder (s : State) : Decoder :=
  match s.cfg.decode with
  | .standard => defaultDecode
  | .other name => openDecoder name

/-- `APPLY(payload)`: the decode, and nothing else (45_register_write.md R150). -/
def State.apply (dec : Decoder) (payload : Byte) (s : State) : State :=
  s.setRegs (dec.write payload s.regs)

/-- Shared by `LTONE0` to `LTONE2`: latch the tone register of channel `c` and write its low nibble. -/
def State.latchTone (s : State) (c : Fin 3) (d4 : BitVec 4) : State :=
  s.setRegs ((s.regs.setLatch (BitVec.ofNat 2 c) 0).setDivisorLow c d4)

/-- Shared by `LATT0` to `LATT3`: latch the attenuation register of channel `c` and write it. -/
def State.latchAttenuation (s : State) (c : Fin 4) (d4 : BitVec 4) : State :=
  s.setRegs ((s.regs.setLatch (BitVec.ofNat 2 c) 1).setAttenuation c d4)

/-- `LTONE0 d4` (R157). -/
def execLtone0 (d4 : BitVec 4) (s : State) : Host.Outcome State Fault Refusal :=
  .next (s.latchTone 0 d4)

/-- `LTONE1 d4` (R158). -/
def execLtone1 (d4 : BitVec 4) (s : State) : Host.Outcome State Fault Refusal :=
  .next (s.latchTone 1 d4)

/-- `LTONE2 d4` (R159). -/
def execLtone2 (d4 : BitVec 4) (s : State) : Host.Outcome State Fault Refusal :=
  .next (s.latchTone 2 d4)

/-- `LNOISE d3`: `controlBits <- d3` and nothing else but the latch (R160; 43_noise.md R132). -/
def execLnoise (d3 : BitVec 3) (s : State) : Host.Outcome State Fault Refusal :=
  .next (s.setRegs ((s.regs.setLatch 3 0).setControl d3))

/-- `LATT0 d4` (R161). -/
def execLatt0 (d4 : BitVec 4) (s : State) : Host.Outcome State Fault Refusal :=
  .next (s.latchAttenuation 0 d4)

/-- `LATT1 d4` (R162). -/
def execLatt1 (d4 : BitVec 4) (s : State) : Host.Outcome State Fault Refusal :=
  .next (s.latchAttenuation 1 d4)

/-- `LATT2 d4` (R163). -/
def execLatt2 (d4 : BitVec 4) (s : State) : Host.Outcome State Fault Refusal :=
  .next (s.latchAttenuation 2 d4)

/-- `LATT3 d4` (R164). -/
def execLatt3 (d4 : BitVec 4) (s : State) : Host.Outcome State Fault Refusal :=
  .next (s.latchAttenuation 3 d4)

/-- `DATA d6`, by the latch, which it does not change (R165). -/
def execData (d6 : BitVec 6) (s : State) : Host.Outcome State Fault Refusal :=
  .next (s.setRegs (s.regs.writeData d6 (selectReg s.regs.latchCh s.regs.latchType)))

end Sys2Proof.Machine
end

