-- ==== Sys2Proof/Machine/Synchronizer.lean ====
section
/-! DEFINITION. The write queue and clock synchronizer: `ENQ`, `GEN`, and the operations `GEN` schedules
(40_write_queue_sync.md). -/

namespace Sys2Proof.Machine

/-- `OFFSET(i, elapsed, N) = floor((i * elapsed) / N)`, the product exact (40_write_queue_sync.md R85). -/
def offset (i elapsed n : Nat) : Nat := i * elapsed / n

/-- The due test at the window position `limit = startCycle + OFFSET(i, elapsed, N)` (40_write_queue_sync.md R86). -/
def Pending.due (limit : Nat) (p : Pending) : Bool := decide (p.ts ≤ limit)

/-- The loop of `DRAIN`: apply from the oldest entry on, until the head is not due (40_write_queue_sync.md R87).
What it answers is the registers and what is left of the queue. -/
def drainDue (dec : Decoder) (limit : Nat) : List Pending → Regs → Regs × List Pending
  | [], r => (r, [])
  | p :: rest, r => if p.due limit then drainDue dec limit rest (dec.write p.payload r) else (r, p :: rest)

/-- `DRAIN(startCycle, off)`. -/
def State.drain (dec : Decoder) (startCycle off : Nat) (s : State) : State :=
  let (r, q) := drainDue dec (startCycle + off) s.queue s.regs
  (s.setRegs r).setQueue q

/-- Apply a list of writes in order. -/
def applyAll (dec : Decoder) (writes : List Pending) (r : Regs) : Regs :=
  writes.foldl (fun r p => dec.write p.payload r) r

/-- `DRAIN_ALL()`: "drain any remaining queued writes unconditionally" (40_write_queue_sync.md R90). -/
def State.drainAll (dec : Decoder) (s : State) : State :=
  (s.setRegs (applyAll dec s.queue s.regs)).setQueue []

/-- `FRAME(i)`: ticks, then one mix to both slots (40_write_queue_sync.md R88, 44_mixer.md R143). -/
def State.frame (s : State) : State :=
  s.accStep.emit s.accStep.sample s.accStep.sample

/-- The window of one `GEN`, constant while it runs (40_write_queue_sync.md R84). -/
structure Window where
  startCycle : Nat
  elapsed : Nat
  frames : Nat
deriving DecidableEq, Repr

/-- One pass of the frame loop: the offset, the drain, the frame (40_write_queue_sync.md R83). -/
def State.framePass (dec : Decoder) (w : Window) (i : Nat) (s : State) : State :=
  (s.drain dec w.startCycle (offset i w.elapsed w.frames)).frame

/-- `k` passes of the frame loop from frame `i` on. -/
def State.frameLoop (dec : Decoder) (w : Window) : (i k : Nat) → State → State
  | _, 0, s => s
  | i, k + 1, s => State.frameLoop dec w (i + 1) k (s.framePass dec w i)

/-- The window of a `GEN len, now` issued in `s`: `N = len / 2`, `startCycle = lastSampled`,
`elapsed = now - startCycle` (40_write_queue_sync.md R83). -/
def State.window (s : State) (len now : Nat) : Window :=
  ⟨s.lastSampled, now - s.lastSampled, len / 2⟩

/-- The body of `GEN` once its checks have passed (40_write_queue_sync.md R83). -/
def State.generate (dec : Decoder) (len now : Nat) (s : State) : State :=
  let w := s.window len now
  ((s.begin.frameLoop dec w 0 w.frames).drainAll dec).setLastSampled now

/-- `GEN(present, len, now)` under any decode (40_write_queue_sync.md R83). `BUFFER` is tested before `WINDOW`
(60_exceptions.md R187). -/
def State.gen (dec : Decoder) (present : BitVec 1) (len now : Nat) (s : State) : State :=
  match s.faulted with
  | some code => s.turnAway code
  | none =>
    if present = 0#1 ∨ len % 2 = 1 then s.raise .buffer
    else if now < s.lastSampled then s.raise .window
    else s.generate dec len now

/-- `ts < lastTs`, when an `ENQ` has been accepted since reset (40_write_queue_sync.md R80). -/
def State.outOfOrder (s : State) (ts : Nat) : Bool :=
  match s.lastTs with
  | none => false
  | some last => decide (ts < last)

/-- `ENQ ts, payload` (40_write_queue_sync.md R80). The write is stored whole and applied by nothing here.
A full queue of a finite implementation is refused (93_implementation_defined.md U6). -/
def execEnq (ts : Nat) (payload : Byte) (s : State) : Host.Outcome State Fault Refusal :=
  match s.faulted with
  | some code => .next (s.turnAway code)
  | none =>
    if s.outOfOrder ts then .next (s.raise .order)
    else if s.queueFull then .refused .queueOverflow
    else .next (s.begin.push ts payload)

/-- `GEN present, len, now` with the decode of the device (40_write_queue_sync.md R82). -/
def execGen (present : BitVec 1) (len now : Nat) (s : State) : Host.Outcome State Fault Refusal :=
  .next (s.gen s.decoder present len now)

end Sys2Proof.Machine
end

