-- ==== Sys2Proof/Machine/Dispatch.lean ====
section
/-! DEFINITION. One arm per instruction, each one call of its meaning. -/

namespace Sys2Proof.Machine

def exec (i : Instr) (s : State) : Host.Outcome State Fault Refusal :=
  match i with
  | .reset _ => Sys2Proof.Machine.execReset s
  | .enq ts payload => Sys2Proof.Machine.execEnq ts payload s
  | .gen present len now => Sys2Proof.Machine.execGen present len now s
  | .ltone0 d4 => Sys2Proof.Machine.execLtone0 d4 s
  | .latt0 d4 => Sys2Proof.Machine.execLatt0 d4 s
  | .ltone1 d4 => Sys2Proof.Machine.execLtone1 d4 s
  | .latt1 d4 => Sys2Proof.Machine.execLatt1 d4 s
  | .ltone2 d4 => Sys2Proof.Machine.execLtone2 d4 s
  | .latt2 d4 => Sys2Proof.Machine.execLatt2 d4 s
  | .lnoise _ d3 => Sys2Proof.Machine.execLnoise d3 s
  | .latt3 d4 => Sys2Proof.Machine.execLatt3 d4 s
  | .data _ d6 => Sys2Proof.Machine.execData d6 s

end Sys2Proof.Machine
end

