-- ==== Sys2Proof/Machine/Step.lean ====
section
/-! DEFINITION. One step: the next command that takes the critical section runs whole (00_scope.md R8,
20_memory.md R46). -/

namespace Sys2Proof.Machine

/-- One step. Between commands "the block is idle and its next action is whatever command arrives next"
(10_state.md R29), so without a command the state is unchanged (log entry 2). -/
def step (s : State) : Host.Outcome State Fault Refusal :=
  match s.nextCommand with
  | none => .next s
  | some (t, s') => exec (decodeCommand t) s'

/-- The step with `DECODE` as an argument: "`OPEN`: parameter `DECODE`" (decision D20). A reader who has the decode of a
real device gives it here; `step` is the case of the decode the device is configured with. -/
def stepWith (dec : Decoder) (s : State) : Host.Outcome State Fault Refusal :=
  match s.nextCommand with
  | none => .next s
  | some (t, s') =>
    match decodeCommand t with
    | .gen present len now => .next (s'.gen dec present len now)
    | i => exec i s'

/-- The state in which the very next step runs the instruction of a table word (log entries 6 and 7). -/
def State.withFetchWord (s : State) (nbits w : Nat) : State :=
  match tableWire nbits w with
  | .ok wire => s.placeWire wire
  | .error _ => s

end Sys2Proof.Machine
end

