-- ==== Sys2Proof/Machine/Assembler.lean ====
section
/-! DEFINITION. The assembler of the spec's own vectors: payload mnemonics and command lines (30_encoding.md R72)
and pseudo-instructions (30_encoding.md R73), on abstract lines (log entry 26). -/

namespace Sys2Proof.Machine

/-- The byte of a payload mnemonic, by the formulas of 30_encoding.md R72. -/
def payloadByte : PayloadMnemonic → Byte
  | .ltone c d => BitVec.ofNat 8 (0x80 + 32 * c.val + d.toNat)
  | .lnoise d => BitVec.ofNat 8 (0xE0 + d.toNat)
  | .latt c d => BitVec.ofNat 8 (0x90 + 32 * c.val + d.toNat)
  | .data d => BitVec.ofNat 8 d.toNat

/-- The instruction a line stands for (30_encoding.md R72). -/
def lineInstr : Line → Instr
  | .reset => .reset 0
  | .enq ts byte => .enq ts.toNat byte
  | .gen len now => .gen 1 len.toNat now.toNat
  | .genNobuf now => .gen 0 0 now.toNat

/-- The transaction a line puts on the lines of 30_encoding.md R61. -/
def lineTransaction : Line → Transaction
  | .reset => { Transaction.idle with resetLine := 1 }
  | .enq ts byte => { Transaction.idle with ts := ts, payload := byte }
  | .gen len now => { Transaction.idle with op := 1, present := 1, len := len, now := now }
  | .genNobuf now => { Transaction.idle with op := 1, now := now }

/-- The expansion of a pseudo-instruction: `ENQ` lines that carry the same timestamp, in this order
(30_encoding.md R73). -/
def expand : Pseudo → List Line
  | .tone ts c d =>
    [.enq ts (payloadByte (.ltone c (d.extractLsb' 0 4))),
      .enq ts (payloadByte (.data (0#1 ++ d.extractLsb' 4 6)))]
  | .vol ts c a => [.enq ts (payloadByte (.latt c a))]
  | .noise ts w r => [.enq ts (payloadByte (.lnoise (BitVec.ofNat 4 (4 * w.toNat + r.toNat))))]
  | .silence ts =>
    [.enq ts (payloadByte (.latt 0 15)), .enq ts (payloadByte (.latt 1 15)),
      .enq ts (payloadByte (.latt 2 15)), .enq ts (payloadByte (.latt 3 15))]

end Sys2Proof.Machine
end

