-- ==== Sys2Proof/Safety.lean ====
section
/-! DEFINITION. What counts as a good state and a safe run: no fault recorded (60_exceptions.md R185), and the
ranges and orders the spec derives for every state reachable from reset (10_state.md R11, R17, R21; 42_tone.md R115;
43_noise.md R131; 40_write_queue_sync.md R81; 44_mixer.md R141, R143). -/

namespace Sys2Proof.Machine

/-- "a state with `faulted != 0` [is] gone wrong and never […] a final state of a good run" (60_exceptions.md R185). -/
abbrev State.Safe (s : State) : Prop := s.faulted = none

/-- The ranges of the generators between commands. -/
structure State.GeneratorInv (s : State) : Prop where
  /-- 42_tone.md R115: `0 <= countdown[c] <= 1022` for a tone channel. -/
  toneCountdown : ∀ c : Fin 3, 0 ≤ s.countdown[toneChannel c] ∧ s.countdown[toneChannel c] ≤ 1022
  /-- 10_state.md R11: `-1 <= countdown[3] <= max(1023, NOISE_PRESET[0..2]) - 1`. -/
  noiseCountdown : -1 ≤ s.countdown[noiseChannel] ∧
    s.countdown[noiseChannel] ≤ (s.cfg.maxNoiseReload : Int) - 1
  /-- 10_state.md R21: `0 <= acc <= 44099`. -/
  acc : 0 ≤ s.acc ∧ s.acc ≤ 44099
  /-- 43_noise.md R131: `level[3] = shiftRegister[0]`. -/
  noiseLevel : s.level[noiseChannel] = BitVec.ofNat 1 s.shiftRegister
  /-- 10_state.md R15: `shiftRegister` is a `W_SR`-bit value. -/
  shiftRegister : s.shiftRegister < 2 ^ s.cfg.srWidth

/-- The order of the queue and the domain of cycle counts. -/
structure State.QueueInv (s : State) : Prop where
  /-- 10_state.md R17: "timestamps are non-decreasing in enqueue order". -/
  ordered : s.queue.Pairwise (fun older younger => older.ts ≤ younger.ts)
  /-- 40_write_queue_sync.md R81: every entry's `ts` is `<= lastTs`. -/
  belowLast : ∀ p ∈ s.queue, ∃ last, s.lastTs = some last ∧ p.ts ≤ last
  /-- 10_state.md R19: cycle counts are below `2^W_CYC`. -/
  lastTs : ∀ last, s.lastTs = some last → last < 2 ^ cycleWidth
  /-- 10_state.md R19: cycle counts are below `2^W_CYC`. -/
  lastSampled : s.lastSampled < 2 ^ cycleWidth
  /-- 93_implementation_defined.md U6: a finite queue never holds more than `QUEUE_DEPTH` entries. -/
  room : ∀ depth, s.cfg.queueDepth = some depth → s.queue.length ≤ depth

/-- What a caller is handed. -/
structure State.PortInv (s : State) : Prop where
  /-- 44_mixer.md R143, R144, R141: both slots carry one value, 0 to `60 * MIX_SCALE`. -/
  frames : ∀ f ∈ s.out, f.left = f.right ∧ 0 ≤ f.left.toInt ∧ f.left.toInt ≤ 60 * (s.cfg.mixScale : Int)
  /-- 60_exceptions.md R184, R185: the outcome of the latest command is the value of `faulted`. -/
  outcome : s.response.code = s.faultStatus
  /-- 60_exceptions.md R184, R185: a command that faults or is turned away emits no frame. -/
  silent : s.faulted ≠ none → s.out = []

end Sys2Proof.Machine
end

