-- ==== Sys2Proof/Certificates/Slice0/Obligations.lean ====
section
/-! DEFINITION. The statements for the provers. Each docstring names the rule of spec/ the statement formalises. -/

open Sys2Proof Sys2Proof.Machine

/-! ## Encoding -/

/-- 30_encoding.md R68: bytes written out from the payload map decode to the rows they stand for. The four
`decodeTableWord` clauses, in which a two-bit word of the opcode table has bit 1 as the reset line and bit 0 as `op` and
its operand lines at 0, are the model's choice (log entry 6, DESIGN CHOICE). -/
def Obligations.SpecWordsDecodeToTheirRows : Prop :=
  decodePayload 0b10001010 = .ltone0 10 ∧ decodePayload 0b10100101 = .ltone1 5 ∧
  decodePayload 0b11000001 = .ltone2 1 ∧ decodePayload 0b11101111 = .lnoise 1 7 ∧
  decodePayload 0b10011111 = .latt0 15 ∧ decodePayload 0b10110100 = .latt1 4 ∧
  decodePayload 0b11011111 = .latt2 15 ∧ decodePayload 0b11110000 = .latt3 0 ∧
  decodePayload 0b00111111 = .data 0 63 ∧ decodePayload 0b01000000 = .data 1 0 ∧
  decodeTableWord 2 0b00 = some (.enq 0 0) ∧ decodeTableWord 2 0b01 = some (.gen 0 0 0) ∧
  decodeTableWord 2 0b10 = some (.reset 0) ∧ decodeTableWord 2 0b11 = some (.reset 1)

/-- Decoding what the encoder writes gives the instruction back, every operand at every value its width admits
(30_encoding.md R61, R65, R66, R68). -/
def Obligations.DecodeOfEncodeIsTheInstruction : Prop :=
  ∀ i : Instr, i.wellFormed = true → decode (encode i) = i

/-- 30_encoding.md R68: "The rows are disjoint and together cover all 256 byte values"; and encoding the form a byte
decodes to gives that byte back, so no bit of a byte is dropped. -/
def Obligations.PayloadRowsPartitionTheBytes : Prop :=
  ∀ b : Byte,
    ([(0xF0, 0x80), (0xF0, 0x90), (0xF0, 0xA0), (0xF0, 0xB0), (0xF0, 0xC0), (0xF0, 0xD0), (0xF0, 0xE0), (0xF0, 0xF0),
      (0x80, 0x00)].countP (fun row => matches8 row.1 row.2 b)) = 1 ∧
    encode (decodePayload b) = .payload b

/-- 30_encoding.md R61, R69, R70: every transaction and every byte decodes, to a well-formed instruction, and the
reset line overrides the command presented with it. -/
def Obligations.EveryWireDecodes : Prop :=
  (∀ w : Wire, (decode w).wellFormed = true) ∧
  (∀ t : Transaction, t.resetLine = 1#1 → decode (.command t) = .reset t.op) ∧
  (∀ t : Transaction, t.resetLine = 0#1 → t.op = 0#1 → decode (.command t) = .enq t.ts.toNat t.payload) ∧
  (∀ t : Transaction, t.resetLine = 0#1 → t.op = 1#1 →
    decode (.command t) = .gen t.present t.len.toNat t.now.toNat)

/-- 30_encoding.md R72: a line's transaction decodes, by R61, to the line's instruction, and a payload mnemonic's byte
decodes, by R68, to its form. That `RESET` is assembled with `op = 0` is the model's choice (log entry 26). -/
def Obligations.AssemblerLinesDecode : Prop :=
  (∀ l : Line, decodeCommand (lineTransaction l) = lineInstr l) ∧
  (∀ d, decodePayload (payloadByte (.ltone 0 d)) = .ltone0 d) ∧
  (∀ d, decodePayload (payloadByte (.ltone 1 d)) = .ltone1 d) ∧
  (∀ d, decodePayload (payloadByte (.ltone 2 d)) = .ltone2 d) ∧
  (∀ d, decodePayload (payloadByte (.latt 0 d)) = .latt0 d) ∧
  (∀ d, decodePayload (payloadByte (.latt 1 d)) = .latt1 d) ∧
  (∀ d, decodePayload (payloadByte (.latt 2 d)) = .latt2 d) ∧
  (∀ d, decodePayload (payloadByte (.latt 3 d)) = .latt3 d) ∧
  (∀ d : BitVec 4, decodePayload (payloadByte (.lnoise d)) = .lnoise (d.extractLsb' 3 1) (d.extractLsb' 0 3)) ∧
  (∀ d : BitVec 7, decodePayload (payloadByte (.data d)) = .data (d.extractLsb' 6 1) (d.extractLsb' 0 6))

/-! ## The step -/

/-- 00_scope.md R8, 20_memory.md R46, 10_state.md R29: a step takes the next command and runs the instruction it
decodes to, whole; without a command the block is idle. `DECODE` is an argument of the step (92_eei_decisions.md D20),
and the step is the one with the decode of the device. That the commands stand in a list, and how the decode reaches
the step, is the model's choice (log entries 1, 2, 8 and 28). -/
def Obligations.StepRunsTheDecodedCommand : Prop :=
  (∀ (s : State) (t : Transaction) (rest : List Transaction), s.commands = t :: rest →
    step s = exec (decodeCommand t) { s with commands := rest }) ∧
  (∀ s : State, s.commands = [] → step s = .next s) ∧
  (∀ s : State, step s = stepWith s.decoder s) ∧
  (∀ (dec : Decoder) (s : State) (t : Transaction) (rest : List Transaction), s.commands = t :: rest →
    t.resetLine = 0#1 → t.op = 1#1 →
    stepWith dec s = .next (State.gen dec t.present t.len.toNat t.now.toNat { s with commands := rest }))

/-- A word of the opcode table placed by `withFetchWord` is what the next step runs: a selector as a command, a byte
as the one pending write of a `GEN` of no frame (the model's choice, log entries 6 and 7; 45_register_write.md R150).
The byte goes through the decode of the device; with the default decode that is its form's meaning. -/
def Obligations.PlacedWordIsRunByTheNextStep : Prop :=
  (∀ (s : State) (w : Nat), w < 4 → ∃ i, decodeTableWord 2 w = some i ∧ step (s.withFetchWord 2 w) = exec i s) ∧
  (∀ (s : State) (w : Nat), 4 ≤ w → w < 256 → s.lastSampled < 2 ^ cycleWidth →
    step (s.withFetchWord 8 w) = .next { s with
      regs := s.decoder.write (BitVec.ofNat 8 w) s.regs
      queue := [], lastTs := some (s.lastTs.getD 0), faulted := none, out := [], response := .completed } ∧
    (s.cfg.decode = .standard → ∃ i t, decodeTableWord 8 w = some i ∧ exec i s = .next t ∧
      step (s.withFetchWord 8 w) = .next { t with
        queue := [], lastTs := some (s.lastTs.getD 0), faulted := none, out := [], response := .completed }))

/-- 20_memory.md R52, 60_exceptions.md R184, R185, R186: every command ends in a next state; the only exception is an
`ENQ` on a finite queue that is full, which is refused by name (93_implementation_defined.md U6; log entry 14). That a
command which faults, or is turned away, answers a next state and no fault of the step is the model's choice (log entry
13, DESIGN CHOICE). -/
def Obligations.EveryStepAnswersANextState : Prop :=
  ∀ s : State, (∃ t, step s = .next t) ∨ (step s = .refused .queueOverflow ∧ s.queueFull = true ∧ s.faulted = none)

/-- 70_reset_and_hazards.md R211, 10_state.md R24: no operation writes the configuration. That it is carried in State is
the model's choice (log entry 3, DESIGN CHOICE), and that `RESET` carries no new configuration, where R210 has the
parameters supplied with it, is the model's reading (log entry 12, DEDUCED). -/
def Obligations.StepKeepsTheConfiguration : Prop :=
  ∀ s t : State, step s = .next t → t.cfg = s.cfg

/-- 00_scope.md R5, 70_reset_and_hazards.md R211, 92_eei_decisions.md D26: parameters that break one of the six bounds
give no device, every other choice of parameters gives one, and every configuration meets the six bounds. That a refused
configuration is one that cannot be built is the model's choice (log entry 3, DESIGN CHOICE). -/
def Obligations.ConfigurationOutsideConstraintsIsRefused : Prop :=
  (∀ p : Params, Config.ofParams p = none ↔
    ¬ (1 ≤ p.chipClock ∧ 1 ≤ p.srWidth ∧ p.tapMask < 2 ^ p.srWidth ∧ p.srInit < 2 ^ p.srWidth ∧
      1 ≤ p.mixScale ∧ 60 * p.mixScale ≤ 32767)) ∧
  (∀ c : Config, Config.ofParams c.toParams = some c ∧
    1 ≤ c.chipClock ∧ 1 ≤ c.srWidth ∧ c.tapMask < 2 ^ c.srWidth ∧ c.srInit < 2 ^ c.srWidth ∧
    1 ≤ c.mixScale ∧ 60 * c.mixScale ≤ 32767)

/-- 10_state.md R24, R26, 20_memory.md R40: what was handed back (frames and outcome) is read by no command. -/
def Obligations.OutputIsNeverReadBack : Prop :=
  ∀ (s : State) (frames : List Frame) (outcome : Response), s.commands ≠ [] →
    step { s with out := frames, response := outcome } = step s

/-! ## Reset -/

/-- 70_reset_and_hazards.md R210, 10_state.md R34: the value of every state element after `RESET`, in every state,
a faulted one included; pending writes are discarded and no frame is emitted. Three clauses are the model's choice: the
configuration stays that of the instance and commands that have not arrived stay outside (log entry 12, DEDUCED and
DESIGN CHOICE), and the model's own `ownState` and `response` have a reset value (log entries 28 and 5). -/
def Obligations.ResetGivesEveryElementItsResetValue : Prop :=
  ∀ (op : BitVec 1) (s : State), ∃ t, exec (.reset op) s = .next t ∧
    (∀ c : Fin 3, t.regs.divisor[c] = 0) ∧ (∀ c : Fin 4, t.countdown[c] = 0) ∧
    (∀ c : Fin 4, t.regs.attenuation[c] = 0) ∧ (∀ c : Fin 3, t.level[toneChannel c] = 0) ∧
    t.level[noiseChannel] = BitVec.ofNat 1 s.cfg.srInit ∧ t.regs.controlBits = 0 ∧
    t.shiftRegister = s.cfg.srInit ∧ t.tickParity = 0 ∧ t.queue = [] ∧ t.lastTs = none ∧ t.lastSampled = 0 ∧
    t.acc = 0 ∧ t.regs.latchCh = 0 ∧ t.regs.latchType = 0 ∧ t.regs.ownState = 0 ∧ t.faultStatus = 0 ∧
    t.cfg = s.cfg ∧ t.commands = s.commands ∧ t.out = [] ∧ t.response = .completed

/-- 70_reset_and_hazards.md R214: in the reset state, under every configuration, every tick flips all three tone
levels, so they are the parity of the number of ticks so far. The spec marks it as an inference of its own. -/
def Obligations.ResetStateFlipsAllTonesEveryTick : Prop :=
  ∀ (cfg : Config) (n : Nat) (c : Fin 3),
    (State.tick^[n] (State.resetWith cfg)).level[toneChannel c] = BitVec.ofNat 1 n ∧
    (State.tick^[n] (State.resetWith cfg)).countdown[toneChannel c] = 0

/-! ## ENQ -/

/-- 40_write_queue_sync.md R80, 60_exceptions.md R183: an `ENQ` in order appends one pending write, whole, and changes no
register; equal timestamps are in order, and the timestamp is compared with nothing but `lastTs`, whether or not that
entry is still queued. One below `lastTs` raises `ORDER`, code 2, and changes nothing else. With a fault recorded the
`ENQ` does nothing. The queue of the spec is unbounded; a finite one must have room (93_implementation_defined.md U6). -/
def Obligations.EnqAppendsInOrderAndElseRaisesOrder : Prop :=
  ∀ (ts : Nat) (payload : Byte) (s : State),
    (∀ code, s.faulted = some code → exec (.enq ts payload) s = .next { s with
      out := [], response := .turnedAway code }) ∧
    (∀ last, s.faulted = none → s.lastTs = some last → ts < last → exec (.enq ts payload) s = .next { s with
      faulted := some .order, out := [], response := .raised .order }) ∧
    (s.faulted = none → (∀ last, s.lastTs = some last → last ≤ ts) → s.queueFull = false →
      exec (.enq ts payload) s = .next { s with
        queue := s.queue ++ [⟨ts, payload⟩], lastTs := some ts, out := [], response := .completed }) ∧
    (s.cfg.queueDepth = none → s.queueFull = false) ∧ FaultCode.order.code = 2

/-- 93_implementation_defined.md U6: an `ENQ` that would overflow a finite queue is refused, never dropped silently. -/
def Obligations.EnqOnAFullFiniteQueueIsRefused : Prop :=
  ∀ (ts depth : Nat) (payload : Byte) (s : State), s.faulted = none →
    (∀ last, s.lastTs = some last → last ≤ ts) → s.cfg.queueDepth = some depth → depth ≤ s.queue.length →
    exec (.enq ts payload) s = .refused .queueOverflow

/-! ## Faults -/

/-- 60_exceptions.md R181, R184, R187: a `GEN` with an absent or odd buffer raises `BUFFER`, code 1, whatever the
counter sample, and changes no other state; with a buffer of even length, 0 included, it does not. -/
def Obligations.GenBadBufferRaisesBuffer : Prop :=
  ∀ (present : BitVec 1) (len now : Nat) (s : State), s.faulted = none →
    (present = 0#1 ∨ len % 2 = 1 → exec (.gen present len now) s = .next { s with
      faulted := some .buffer, out := [], response := .raised .buffer }) ∧
    (present = 1#1 → len % 2 = 0 → ∃ t, exec (.gen present len now) s = .next t ∧ t.faulted ≠ some .buffer) ∧
    FaultCode.buffer.code = 1

/-- 60_exceptions.md R182, R184: a `GEN` whose counter sample is below `lastSampled`, as integers, raises `WINDOW`,
code 3, and changes no other state; a sample equal to `lastSampled` or above it raises nothing. -/
def Obligations.GenClockRegressionRaisesWindow : Prop :=
  ∀ (len now : Nat) (s : State), s.faulted = none → len % 2 = 0 →
    (now < s.lastSampled → exec (.gen 1#1 len now) s = .next { s with
      faulted := some .window, out := [], response := .raised .window }) ∧
    (s.lastSampled ≤ now → ∃ t, exec (.gen 1#1 len now) s = .next t ∧ t.faulted = none) ∧
    FaultCode.window.code = 3

/-- 60_exceptions.md R185: while a fault is recorded every `ENQ` and every `GEN` is turned away; it changes no state,
emits no frame and returns `faulted`; only `RESET` returns it to 0. -/
def Obligations.FaultedBlockTurnsCommandsAway : Prop :=
  ∀ (s : State) (code : FaultCode), s.faulted = some code →
    (∀ ts payload, exec (.enq ts payload) s = .next { s with out := [], response := .turnedAway code }) ∧
    (∀ present len now, exec (.gen present len now) s = .next { s with out := [], response := .turnedAway code }) ∧
    (∀ op, ∃ t, exec (.reset op) s = .next t ∧ t.faultStatus = 0)

/-- 60_exceptions.md R185, R188, 10_state.md R23: a recorded fault stays, with its code, through every step that does
not run `RESET`; and a `RESET` clears it. -/
def Obligations.OnlyResetClearsAFault : Prop :=
  ∀ (s t : State) (code : FaultCode), s.faulted = some code → step s = .next t →
    (t.faulted = some code ∧ t.regs = s.regs ∧ t.queue = s.queue ∧ t.countdown = s.countdown ∧ t.level = s.level ∧
      t.shiftRegister = s.shiftRegister ∧ t.tickParity = s.tickParity ∧ t.lastTs = s.lastTs ∧
      t.lastSampled = s.lastSampled ∧ t.acc = s.acc) ∨
    (∃ (c : Transaction) (rest : List Transaction), s.commands = c :: rest ∧ c.resetLine = 1#1 ∧ t.faulted = none)

/-! ## GEN -/

/-- 40_write_queue_sync.md R83: the schedule of `GEN`: the checks in their order; then for each frame `i` from 0 to
`N - 1` the drain at `floor(i * elapsed / N)` and the frame; then the unconditional drain; then the counter sample. -/
def Obligations.GenFollowsItsSchedule : Prop :=
  ∀ (present : BitVec 1) (len now : Nat) (s : State),
    (∀ code, s.faulted = some code → exec (.gen present len now) s = .next { s with
      out := [], response := .turnedAway code }) ∧
    (s.faulted = none → present = 0#1 ∨ len % 2 = 1 → exec (.gen present len now) s = .next { s with
      faulted := some .buffer, out := [], response := .raised .buffer }) ∧
    (s.faulted = none → present = 1#1 → len % 2 = 0 → now < s.lastSampled →
      exec (.gen present len now) s = .next { s with
        faulted := some .window, out := [], response := .raised .window }) ∧
    (s.faulted = none → present = 1#1 → len % 2 = 0 → s.lastSampled ≤ now →
      exec (.gen present len now) s = .next
        ((((List.range (len / 2)).foldl
          (fun (u : State) i => (u.drain s.decoder s.lastSampled (i * (now - s.lastSampled) / (len / 2))).frame)
          { s with out := [], response := .completed }).drainAll s.decoder).setLastSampled now))

/-- 20_memory.md R52, 40_write_queue_sync.md R82, R90, R91: a `GEN` that passes its checks runs to completion: it
emits `N = len / 2` frames, leaves the queue empty with every pending write applied in order, and takes the counter
sample; `lastTs`, the configuration and the fault status are unchanged. -/
def Obligations.GenRunsToCompletion : Prop :=
  ∀ (len now : Nat) (s : State), s.faulted = none → len % 2 = 0 → s.lastSampled ≤ now →
    ∃ t, exec (.gen 1#1 len now) s = .next t ∧ t.out.length = len / 2 ∧ (slots t.out).length = len ∧ t.queue = [] ∧
      t.regs = applyAll s.decoder s.queue s.regs ∧ t.lastSampled = now ∧ t.lastTs = s.lastTs ∧
      t.faulted = none ∧ t.response = .completed ∧ t.cfg = s.cfg ∧ t.commands = s.commands

/-- The same for every decode that meets the contract of 45_register_write.md R150 to R154 (decision D20), which are all
that `Decoder` holds: nothing in the schedule of `GEN` depends on which decode the block is given. -/
def Obligations.GenCompletesUnderEveryDecode : Prop :=
  ∀ (dec : Decoder) (len now : Nat) (s : State), s.faulted = none → len % 2 = 0 → s.lastSampled ≤ now →
    (s.gen dec 1#1 len now).out.length = len / 2 ∧ (s.gen dec 1#1 len now).queue = [] ∧
    (s.gen dec 1#1 len now).regs = applyAll dec s.queue s.regs ∧ (s.gen dec 1#1 len now).lastSampled = now ∧
    (s.gen dec 1#1 len now).faulted = none

/-- 40_write_queue_sync.md R93: a `GEN` with an empty buffer raises nothing for the buffer, emits nothing, ticks nothing,
applies every pending write and takes the counter sample; the `WINDOW` check still applies. -/
def Obligations.GenOfNoFrameDrainsTheQueue : Prop :=
  ∀ (now : Nat) (s : State), s.faulted = none →
    (s.lastSampled ≤ now → exec (.gen 1#1 0 now) s = .next { s with
      regs := applyAll s.decoder s.queue s.regs, queue := [], lastSampled := now, out := [],
      response := .completed }) ∧
    (now < s.lastSampled → exec (.gen 1#1 0 now) s = .next { s with
      faulted := some .window, out := [], response := .raised .window })

/-- 20_memory.md R48, 40_write_queue_sync.md R86, R89: frame `i` of a `GEN` is synthesized with exactly those pending
writes applied whose timestamp is at most `startCycle + offset(i)`, in queue order; the others are still queued.
The spec marks it as an inference of its own. -/
def Obligations.WritesAreVisibleFromTheirFrameOn : Prop :=
  ∀ (len now i : Nat) (s : State), s.faulted = none → len % 2 = 0 → s.lastSampled ≤ now → i < len / 2 →
    s.queue.Pairwise (fun older younger => older.ts ≤ younger.ts) →
    ∃ u t, exec (.gen 1#1 len now) s = .next t ∧
      u.regs = applyAll s.decoder
        (s.queue.filter (fun p => p.ts ≤ s.lastSampled + i * (now - s.lastSampled) / (len / 2))) s.regs ∧
      u.queue = s.queue.filter (fun p => ¬ p.ts ≤ s.lastSampled + i * (now - s.lastSampled) / (len / 2)) ∧
      (∃ v, u = v.drain s.decoder s.lastSampled (offset i (now - s.lastSampled) (len / 2)) ∧
        v = s.begin.frameLoop s.decoder (s.window len now) 0 i) ∧
      t.out[i]? = some ⟨u.accStep.sample, u.accStep.sample⟩

/-- 40_write_queue_sync.md R87, R81: on a queue in timestamp order, `DRAIN` applies, oldest first, exactly the due
writes, and leaves exactly the others in their order. The spec marks it as an inference of its own. -/
def Obligations.DrainAppliesExactlyTheDueWrites : Prop :=
  ∀ (dec : Decoder) (limit : Nat) (q : List Pending) (r : Regs),
    q.Pairwise (fun older younger => older.ts ≤ younger.ts) →
    drainDue dec limit q r = (applyAll dec (q.filter (·.due limit)) r, q.filter (fun p => !p.due limit))

/-- 40_write_queue_sync.md R87 on any queue: `DRAIN` splits the queue into an old part of due writes, applied oldest
first, and a rest that is empty or starts with a write that is not due; it changes nothing but the registers and the
queue. -/
def Obligations.DrainStopsAtTheFirstWriteNotDue : Prop :=
  ∀ (dec : Decoder) (startCycle off : Nat) (s : State), ∃ applied rest,
    s.queue = applied ++ rest ∧
    s.drain dec startCycle off = { s with regs := applyAll dec applied s.regs, queue := rest } ∧
    (∀ p ∈ applied, p.ts ≤ startCycle + off) ∧ (∀ p, rest.head? = some p → startCycle + off < p.ts)

/-- 40_write_queue_sync.md R85, R89: the mapped offset is the floor of `i * elapsed / N`, does not decrease with `i`,
stays within the window, starts at 0, and its largest value is `elapsed - ceil(elapsed / N)`. That it does not decrease
and stays within the window is R89, which the spec marks as an inference of its own from R85. -/
def Obligations.OffsetDistributesTheWindow : Prop :=
  ∀ elapsed n : Nat, 1 ≤ n →
    (∀ i, offset i elapsed n * n ≤ i * elapsed ∧ i * elapsed < (offset i elapsed n + 1) * n) ∧
    (∀ i j, i ≤ j → offset i elapsed n ≤ offset j elapsed n) ∧
    (∀ i, i < n → offset i elapsed n ≤ elapsed) ∧ offset 0 elapsed n = 0 ∧
    offset (n - 1) elapsed n + (elapsed + n - 1) / n = elapsed

/-- 40_write_queue_sync.md R92, the split law: with no write pending, two calls and one call of the summed length give
the same state, and the frames of the two calls in a row are the frames of the one.
The spec marks it as an inference of its own. -/
def Obligations.SplittingACallChangesNothing : Prop :=
  ∀ (len₁ len₂ now₁ now₂ : Nat) (s t₁ t₂ t : State), s.faulted = none → s.queue = [] → len₁ % 2 = 0 →
    len₂ % 2 = 0 → s.lastSampled ≤ now₁ → now₁ ≤ now₂ →
    exec (.gen 1#1 len₁ now₁) s = .next t₁ → exec (.gen 1#1 len₂ now₂) t₁ = .next t₂ →
    exec (.gen 1#1 (len₁ + len₂) now₂) s = .next t →
    t = { t₂ with out := t₁.out ++ t₂.out }

/-- 41_tick_accumulator.md R102, 40_write_queue_sync.md R95: with no write pending, the frames of a `GEN` and the
generators after it do not depend on the elapsed cycles. The spec marks it as an inference of its own. -/
def Obligations.TicksDoNotDependOnElapsedCycles : Prop :=
  ∀ (len now₁ now₂ : Nat) (s t₁ t₂ : State), s.faulted = none → s.queue = [] → len % 2 = 0 →
    s.lastSampled ≤ now₁ → s.lastSampled ≤ now₂ →
    exec (.gen 1#1 len now₁) s = .next t₁ → exec (.gen 1#1 len now₂) s = .next t₂ →
    t₂ = { t₁ with lastSampled := now₂ }

/-! ## The accumulator -/

/-- 41_tick_accumulator.md R101: "decrement the accumulator by the chip's nominal clock rate; while the accumulator
remains negative, perform exactly one internal chip tick and add 44100 back": the loop's own equation. -/
def Obligations.AccStepIsTheWhileLoop : Prop :=
  ∃ loop : State → State,
    (∀ u, loop u = if u.acc < 0 then loop (u.tick.setAcc (u.tick.acc + 44100)) else u) ∧
    (∀ u, 0 ≤ (loop u).acc) ∧
    (∀ s : State, s.accStep = loop (s.setAcc (s.acc - s.cfg.chipClock)))

/-- 41_tick_accumulator.md R102: a frame that starts with `acc = a` performs no tick when `a >= CHIP_CLOCK` and
`ceil((CHIP_CLOCK - a) / 44100)` ticks otherwise, and leaves `a - CHIP_CLOCK + 44100 * k`.
The spec marks it as an inference of its own. -/
def Obligations.TicksOfOneFrame : Prop :=
  ∀ s : State, ∃ k : Nat,
    s.accStep = (State.tick^[k] s).setAcc (s.acc - s.cfg.chipClock + 44100 * k) ∧
    ((s.cfg.chipClock : Int) ≤ s.acc → k = 0) ∧
    (s.acc < (s.cfg.chipClock : Int) →
      44100 * ((k : Int) - 1) < s.cfg.chipClock - s.acc ∧ s.cfg.chipClock - s.acc ≤ 44100 * (k : Int))

/-- 41_tick_accumulator.md R102: from `acc = 0`, after `F` frames the number of ticks is exactly
`ceil(F * CHIP_CLOCK / 44100)`, whatever the calls they came in. The spec marks it as an inference of its own. -/
def Obligations.TicksAfterManyFrames : Prop :=
  ∀ (s : State) (frames : Nat), s.acc = 0 →
    State.accStep^[frames] s =
      (State.tick^[(frames * s.cfg.chipClock + 44099) / 44100] s).setAcc
        (44100 * ((frames * s.cfg.chipClock + 44099) / 44100 : Nat) - (frames * s.cfg.chipClock : Nat))

/-- 41_tick_accumulator.md R103: one tick steps each of the four channels once, and the four steps commute. -/
def Obligations.TickAdvancesAllFourChannels : Prop :=
  (∀ (s : State) (c : Fin 3),
    s.tick.countdown[toneChannel c] = (s.toneStep c).countdown[toneChannel c] ∧
    s.tick.level[toneChannel c] = (s.toneStep c).level[toneChannel c]) ∧
  (∀ s : State,
    s.tick.countdown[noiseChannel] = s.noiseStep.countdown[noiseChannel] ∧
    s.tick.level[noiseChannel] = s.noiseStep.level[noiseChannel] ∧
    s.tick.shiftRegister = s.noiseStep.shiftRegister ∧ s.tick.tickParity = s.noiseStep.tickParity) ∧
  (∀ (s : State) (c d : Fin 3), (s.toneStep c).toneStep d = (s.toneStep d).toneStep c) ∧
  (∀ (s : State) (c : Fin 3), (s.toneStep c).noiseStep = s.noiseStep.toneStep c)

/-- 41_tick_accumulator.md R104, 45_register_write.md R152: ticks and frames change no register, no queue entry and
nothing of the synchronizer but `acc`. The spec marks it as an inference of its own. -/
def Obligations.FramesChangeNoRegister : Prop :=
  ∀ s : State, s.frame.regs = s.regs ∧ s.frame.queue = s.queue ∧ s.frame.lastTs = s.lastTs ∧
    s.frame.lastSampled = s.lastSampled ∧ s.frame.faulted = s.faulted ∧ s.frame.cfg = s.cfg ∧
    s.frame.commands = s.commands ∧ s.frame.response = s.response ∧
    s.frame.out = s.out ++ [⟨s.accStep.sample, s.accStep.sample⟩]

/-! ## The tone generator -/

/-- 42_tone.md R110, R111: on an expiry the level flips and the divisor, 0 read as 1, is reloaded; then the countdown
is decremented, on every tick; nothing else changes. -/
def Obligations.ToneStepReloadsThenAlwaysDecrements : Prop :=
  ∀ (s : State) (c : Fin 3),
    (s.countdown[toneChannel c] ≤ 0 → s.toneStep c = { s with
      level := s.level.set (toneChannel c) (s.level[toneChannel c] ^^^ 1#1)
      countdown := s.countdown.set (toneChannel c)
        ((if s.regs.divisor[c] = 0 then 1 else (s.regs.divisor[c].toNat : Int)) - 1) }) ∧
    (0 < s.countdown[toneChannel c] → s.toneStep c = { s with
      countdown := s.countdown.set (toneChannel c) (s.countdown[toneChannel c] - 1) })

/-- 42_tone.md R112: with a constant divisor and reload value `R`, an expiry tick leaves `R - 1`, the countdown falls
to 0 over the next `R - 1` ticks with the level constant, and tick `R + 1` is the next expiry.
The spec marks it as an inference of its own. -/
def Obligations.ToneHalfPeriodIsTheReloadValue : Prop :=
  ∀ (s : State) (c : Fin 3), s.countdown[toneChannel c] ≤ 0 →
    (∀ k : Nat, k < s.regs.toneReload c →
      (State.tick^[k + 1] s).countdown[toneChannel c] = (s.regs.toneReload c : Int) - 1 - k ∧
      (State.tick^[k + 1] s).level[toneChannel c] = s.level[toneChannel c] ^^^ 1#1) ∧
    (State.tick^[s.regs.toneReload c + 1] s).level[toneChannel c] = s.level[toneChannel c]

/-- 42_tone.md R113: with `divisor[c]` 0 or 1, from `countdown[c] = 0`, every tick is an expiry, leaves the countdown
at 0 and flips the level: `D = 0` behaves identically to `D = 1`. The spec marks it as an inference of its own. -/
def Obligations.DivisorZeroBehavesAsOne : Prop :=
  ∀ (s : State) (c : Fin 3) (n : Nat), s.regs.divisor[c] = 0 ∨ s.regs.divisor[c] = 1 →
    s.countdown[toneChannel c] = 0 →
    (State.tick^[n] s).countdown[toneChannel c] = 0 ∧
    (State.tick^[n] s).level[toneChannel c] = s.level[toneChannel c] ^^^ BitVec.ofNat 1 n

/-! ## The noise generator -/

/-- 43_noise.md R120, R122, R123: on an expiry the countdown takes the reload value the rate names, `tickParity`
toggles, and the register shifts exactly when the toggled value is the active phase; then the countdown is
decremented, on every tick. -/
def Obligations.NoiseStepGatesTheShift : Prop :=
  ∀ s : State,
    (0 < s.countdown[noiseChannel] → s.noiseStep = { s with
      countdown := s.countdown.set noiseChannel (s.countdown[noiseChannel] - 1) }) ∧
    (s.countdown[noiseChannel] ≤ 0 → s.tickParity ^^^ 1#1 ≠ s.cfg.parityActive → s.noiseStep = { s with
      countdown := s.countdown.set noiseChannel ((s.noiseReload : Int) - 1)
      tickParity := s.tickParity ^^^ 1#1 }) ∧
    (s.countdown[noiseChannel] ≤ 0 → s.tickParity ^^^ 1#1 = s.cfg.parityActive → s.noiseStep = { s with
      countdown := s.countdown.set noiseChannel ((s.noiseReload : Int) - 1)
      tickParity := s.tickParity ^^^ 1#1
      shiftRegister := s.lfsrShift.shiftRegister
      level := s.level.set noiseChannel (BitVec.ofNat 1 s.lfsrShift.shiftRegister) }) ∧
    (s.regs.controlBits.extractLsb' 0 2 = 0#2 → s.noiseReload = s.cfg.noisePreset[0]) ∧
    (s.regs.controlBits.extractLsb' 0 2 = 1#2 → s.noiseReload = s.cfg.noisePreset[1]) ∧
    (s.regs.controlBits.extractLsb' 0 2 = 2#2 → s.noiseReload = s.cfg.noisePreset[2]) ∧
    (s.regs.controlBits.extractLsb' 0 2 = 3#2 → s.noiseReload = s.regs.divisor[2].toNat)

/-- 43_noise.md R125: a shift moves every bit down by one, inserts the feed bit at bit `W_SR - 1`, and copies the new
bit 0 to `level[3]`; the feed bit is the parity of the tapped bits (white) or the old bit 0 (periodic). -/
def Obligations.LfsrShiftMovesEveryBit : Prop :=
  ∀ s : State, s.shiftRegister < 2 ^ s.cfg.srWidth →
    (∀ j, j + 1 < s.cfg.srWidth → s.lfsrShift.shiftRegister.testBit j = s.shiftRegister.testBit (j + 1)) ∧
    (s.regs.controlBits.extractLsb' 2 1 = 1#1 → s.lfsrShift.shiftRegister.testBit (s.cfg.srWidth - 1) =
      (popcount s.cfg.srWidth (s.shiftRegister &&& s.cfg.tapMask) % 2 == 1)) ∧
    (s.regs.controlBits.extractLsb' 2 1 = 0#1 →
      s.lfsrShift.shiftRegister.testBit (s.cfg.srWidth - 1) = s.shiftRegister.testBit 0) ∧
    s.lfsrShift.shiftRegister < 2 ^ s.cfg.srWidth ∧
    s.lfsrShift = { s with
      shiftRegister := s.lfsrShift.shiftRegister
      level := s.level.set noiseChannel (BitVec.ofNat 1 s.lfsrShift.shiftRegister) }

/-- 43_noise.md R126: the fold by successive halving and XOR is the parity of the set bits, for every width.
The spec marks it as an inference of its own. -/
def Obligations.HalvingFoldIsParity : Prop :=
  ∀ w v : Nat, 1 ≤ w → v < 2 ^ w → foldByHalving w v = fold w v

/-- 43_noise.md R126, the part with a proof idea of its own: XOR of two values folds to the XOR of their folds, and one
bit folds to 1. -/
def Obligations.FoldIsLinear : Prop :=
  (∀ w u v : Nat, fold w (u ^^^ v) = fold w u ^^^ fold w v) ∧ (∀ w j : Nat, j < w → fold w (2 ^ j) = 1#1)

/-- 43_noise.md R127: periodic noise is a rotation to the right by one place a shift: after `k` shifts bit `j` is the
old bit `(j + k) mod W_SR`; so `W_SR` shifts bring the register back, and `level[3]` repeats with that period; with a
single 1 bit in the register, at `m`, it is 1 after exactly those shifts whose number is `m` modulo `W_SR`.
The spec marks it as an inference of its own. -/
def Obligations.PeriodicNoiseIsARotation : Prop :=
  ∀ s : State, s.shiftRegister < 2 ^ s.cfg.srWidth → s.regs.controlBits.extractLsb' 2 1 = 0#1 →
    (∀ k j : Nat, j < s.cfg.srWidth →
      (State.lfsrShift^[k] s).shiftRegister.testBit j = s.shiftRegister.testBit ((j + k) % s.cfg.srWidth)) ∧
    (State.lfsrShift^[s.cfg.srWidth] s).shiftRegister = s.shiftRegister ∧
    (∀ k : Nat, 1 ≤ k → (State.lfsrShift^[k + s.cfg.srWidth] s).level[noiseChannel] =
      (State.lfsrShift^[k] s).level[noiseChannel]) ∧
    (∀ m k : Nat, m < s.cfg.srWidth → s.shiftRegister = 2 ^ m → 1 ≤ k →
      ((State.lfsrShift^[k] s).level[noiseChannel] = 1#1 ↔ k % s.cfg.srWidth = m))

/-- 43_noise.md R128: a device seeded with 0 is silent on the noise channel for ever: whatever the commands, the
register stays 0 and so does `level[3]`. The spec marks it as an inference of its own. -/
def Obligations.ZeroSeedSilencesTheNoiseChannel : Prop :=
  ∀ s t : State, s.cfg.srInit = 0 → s.shiftRegister = 0 → s.level[noiseChannel] = 0#1 → step s = .next t →
    t.shiftRegister = 0 ∧ t.level[noiseChannel] = 0#1

/-- 43_noise.md R124: with a constant reload value `R >= 1` expiries are `R` ticks apart and shifts `2 * R` ticks
apart: from an expiry that shifts, the register is constant over the following `2 * R - 1` ticks, and the tick after
them shifts again. The spec marks it as an inference of its own. -/
def Obligations.NoiseShiftsEverySecondExpiry : Prop :=
  ∀ s : State, 1 ≤ s.noiseReload → s.countdown[noiseChannel] ≤ 0 → s.tickParity ^^^ 1#1 = s.cfg.parityActive →
    (∀ k : Nat, k < 2 * s.noiseReload →
      (State.tick^[k + 1] s).shiftRegister = s.lfsrShift.shiftRegister ∧
      (State.tick^[k + 1] s).countdown[noiseChannel] = (s.noiseReload : Int) - 1 - (k % s.noiseReload : Nat)) ∧
    (State.tick^[2 * s.noiseReload + 1] s).shiftRegister = s.lfsrShift.lfsrShift.shiftRegister

/-- 43_noise.md R130: at reload value 0 the noise channel expires on every tick, with `countdown[3]` resting at -1:
`tickParity` toggles on every tick. The spec marks it as an inference of its own. -/
def Obligations.NoiseReloadZeroExpiresEveryTick : Prop :=
  ∀ (s : State) (n : Nat), s.noiseReload = 0 → s.countdown[noiseChannel] ≤ 0 →
    (State.tick^[n + 1] s).countdown[noiseChannel] = -1 ∧
    (State.tick^[n + 1] s).tickParity = s.tickParity ^^^ BitVec.ofNat 1 (n + 1)

/-! ## The mixer -/

/-- 44_mixer.md R140, R141, R142: the sample is the signed value `MIX_SCALE * Σ level[c] * (15 - attenuation[c])`,
the sum between 0 and 60, so the sample is never negative and within the format. -/
def Obligations.SampleIsTheScaledSum : Prop :=
  ∀ s : State,
    s.sample.toInt = (s.cfg.mixScale : Int) *
      (s.level[0].toNat * (15 - (s.regs.attenuation[0].toNat : Int)) +
        s.level[1].toNat * (15 - (s.regs.attenuation[1].toNat : Int)) +
        s.level[2].toNat * (15 - (s.regs.attenuation[2].toNat : Int)) +
        s.level[3].toNat * (15 - (s.regs.attenuation[3].toNat : Int))) ∧
    s.mix ≤ 60 ∧ 0 ≤ s.sample.toInt ∧ s.sample.toInt ≤ 32767

/-- 44_mixer.md R145: with all four attenuations 15 and no write pending, every frame of a `GEN` is 0.
The spec marks it as an inference of its own. -/
def Obligations.SilencedChannelsGiveZeroFrames : Prop :=
  ∀ (len now : Nat) (s t : State), s.faulted = none → s.queue = [] → (∀ c : Fin 4, s.regs.attenuation[c] = 15) →
    exec (.gen 1#1 len now) s = .next t → ∀ f ∈ t.out, f = ⟨0, 0⟩

/-! ## Register writes -/

/-- 45_register_write.md R157, R158, R159: `LTONE0` to `LTONE2` latch their tone register and write the low nibble of
its divisor, keeping the upper six bits; nothing else changes. -/
def Obligations.ToneLatchFormsWriteTheLowNibble : Prop :=
  ∀ (d4 : BitVec 4) (s : State),
    (decodePayload (0b1000#4 ++ d4) = .ltone0 d4 ∧ exec (.ltone0 d4) s = .next { s with regs := { s.regs with
      latchCh := 0, latchType := 0
      divisor := s.regs.divisor.set 0 (s.regs.divisor[0].extractLsb' 4 6 ++ d4) } }) ∧
    (decodePayload (0b1010#4 ++ d4) = .ltone1 d4 ∧ exec (.ltone1 d4) s = .next { s with regs := { s.regs with
      latchCh := 1, latchType := 0
      divisor := s.regs.divisor.set 1 (s.regs.divisor[1].extractLsb' 4 6 ++ d4) } }) ∧
    (decodePayload (0b1100#4 ++ d4) = .ltone2 d4 ∧ exec (.ltone2 d4) s = .next { s with regs := { s.regs with
      latchCh := 2, latchType := 0
      divisor := s.regs.divisor.set 2 (s.regs.divisor[2].extractLsb' 4 6 ++ d4) } })

/-- 45_register_write.md R161 to R164: `LATT0` to `LATT3` latch and write the attenuation of their channel; nothing
else changes. -/
def Obligations.AttenuationLatchFormsWriteTheirChannel : Prop :=
  ∀ (d4 : BitVec 4) (s : State),
    (decodePayload (0b1001#4 ++ d4) = .latt0 d4 ∧ exec (.latt0 d4) s = .next { s with regs := { s.regs with
      latchCh := 0, latchType := 1, attenuation := s.regs.attenuation.set 0 d4 } }) ∧
    (decodePayload (0b1011#4 ++ d4) = .latt1 d4 ∧ exec (.latt1 d4) s = .next { s with regs := { s.regs with
      latchCh := 1, latchType := 1, attenuation := s.regs.attenuation.set 1 d4 } }) ∧
    (decodePayload (0b1101#4 ++ d4) = .latt2 d4 ∧ exec (.latt2 d4) s = .next { s with regs := { s.regs with
      latchCh := 2, latchType := 1, attenuation := s.regs.attenuation.set 2 d4 } }) ∧
    (decodePayload (0b1111#4 ++ d4) = .latt3 d4 ∧ exec (.latt3 d4) s = .next { s with regs := { s.regs with
      latchCh := 3, latchType := 1, attenuation := s.regs.attenuation.set 3 d4 } })

/-- 45_register_write.md R160, 43_noise.md R132: `LNOISE` latches and writes `controlBits`, bit 3 of the byte ignored,
and touches neither the shift register nor the noise countdown. -/
def Obligations.NoiseLatchFormWritesControlBits : Prop :=
  ∀ (ignored : BitVec 1) (d3 : BitVec 3) (s : State),
    decodePayload (0b1110#4 ++ (ignored ++ d3)) = .lnoise ignored d3 ∧
    exec (.lnoise ignored d3) s = .next { s with regs := { s.regs with
      latchCh := 3, latchType := 0, controlBits := d3 } }

/-- 45_register_write.md R165: `DATA` writes the latched register and leaves the latch: the upper six bits of a
divisor, the low three bits to `controlBits`, or the low four to an attenuation; bit 6 is ignored. -/
def Obligations.DataFormWritesTheLatchedRegister : Prop :=
  ∀ (ignored : BitVec 1) (d6 : BitVec 6) (s : State),
    decodePayload (0#1 ++ (ignored ++ d6)) = .data ignored d6 ∧
    (∀ c : Fin 3, s.regs.latchCh.toNat = c.val → s.regs.latchType = 0#1 →
      exec (.data ignored d6) s = .next { s with regs := { s.regs with
        divisor := s.regs.divisor.set c (d6 ++ s.regs.divisor[c].extractLsb' 0 4) } }) ∧
    (s.regs.latchCh = 3#2 → s.regs.latchType = 0#1 →
      exec (.data ignored d6) s = .next { s with regs := { s.regs with controlBits := d6.extractLsb' 0 3 } }) ∧
    (∀ c : Fin 4, s.regs.latchCh.toNat = c.val → s.regs.latchType = 1#1 →
      exec (.data ignored d6) s = .next { s with regs := { s.regs with
        attenuation := s.regs.attenuation.set c (d6.extractLsb' 0 4) } })

/-- 45_register_write.md R155, R166: the nine forms, decoded and executed one by one, agree on every byte and in every
state with the one pseudocode that `DRAIN` applies under the default decode. In a faulted state no drain runs, and that
the forms still have their meaning there is the model's choice (log entry 17).
The spec marks it as an inference of its own. -/
def Obligations.ApplyAgreesWithTheNineForms : Prop :=
  ∀ (b : Byte) (s : State), (decodePayload b).isPayload = true ∧
    exec (decodePayload b) s = .next (s.apply defaultDecode b)

/-- 45_register_write.md R152: no register write, under the default decode or any other, touches a countdown, a level,
the shift register, `tickParity`, `acc`, the queue, `lastTs`, `lastSampled` or `faulted`. -/
def Obligations.RegisterWritesTouchOnlyRegisters : Prop :=
  (∀ (i : Instr) (s : State), i.isPayload = true → ∃ r, exec i s = .next { s with regs := r }) ∧
  (∀ (dec : Decoder) (b : Byte) (s : State), ∃ r, s.apply dec b = { s with regs := r })

/-- 30_encoding.md R67, R73: the two bytes of `TONE ts, c, D`, applied in order, leave `divisor[c] = D` and every
other register but the latch as it was. -/
def Obligations.ToneExpansionWritesTheWholeDivisor : Prop :=
  ∀ (ts : BitVec cycleWidth) (c : Fin 3) (d : BitVec 10) (r : Regs),
    (expand (.tone ts c d)).map lineInstr =
      [.enq ts.toNat (payloadByte (.ltone c (d.extractLsb' 0 4))),
        .enq ts.toNat (payloadByte (.data (0#1 ++ d.extractLsb' 4 6)))] ∧
    applyAll defaultDecode [⟨ts.toNat, payloadByte (.ltone c (d.extractLsb' 0 4))⟩,
      ⟨ts.toNat, payloadByte (.data (0#1 ++ d.extractLsb' 4 6))⟩] r =
      { r with latchCh := BitVec.ofNat 2 c, latchType := 0, divisor := r.divisor.set c d }

/-! ## Invariants -/

/-- The ranges of 42_tone.md R115, 10_state.md R11, R21 and 43_noise.md R131 hold after every step from a state in
which they hold. The spec marks it as an inference of its own. -/
def Obligations.StepKeepsTheGeneratorInvariant : Prop :=
  ∀ s t : State, s.GeneratorInv → step s = .next t → t.GeneratorInv

/-- 40_write_queue_sync.md R81, 10_state.md R17, R19: every step keeps the queue in timestamp order, below `lastTs`,
and cycle counts in their domain. The spec marks it as an inference of its own. -/
def Obligations.StepKeepsTheQueueInvariant : Prop :=
  ∀ s t : State, s.QueueInv → step s = .next t → t.QueueInv

/-- 44_mixer.md R143, R144, 60_exceptions.md R184, R185: every step hands back frames with two equal non-negative
slots, and the value of `faulted` as its outcome. -/
def Obligations.StepKeepsTheOutputInvariant : Prop :=
  ∀ s t : State, s.PortInv → step s = .next t → t.PortInv

/-- The three invariants hold of the state after reset, under every configuration. -/
def Obligations.ResetMeetsTheInvariants : Prop :=
  (∀ cfg : Config, (State.resetWith cfg).GeneratorInv ∧ (State.resetWith cfg).QueueInv ∧
    (State.resetWith cfg).PortInv) ∧
  State.reset.GeneratorInv ∧ State.reset.QueueInv ∧ State.reset.PortInv

/-! ## The decode, and the other pseudo-instructions -/

/-- 45_register_write.md R154, R166: the decode of every device, the default among them, meets the contract: each
register's new value depends on the payload, the decode's own state and that register alone. So does what a list of
writes, applied in order by any decode, makes of each register. The functions that meet the contract are exactly those
that `confine` leaves as they are, so the OPEN decode of the model shuts out none of them (log entry 28). The default is
the decode of every device configured with it, `State.reset` among them (log entry 4). The spec marks R166 as an inference
of its own. -/
def Obligations.EveryDecodeMeetsTheContract : Prop :=
  DecodeContract defaultWrite ∧ (∀ s : State, DecodeContract s.decoder.write) ∧
    (∀ f : Byte → Regs → Regs, DecodeContract f ↔ confine f = f) ∧
    (∀ (dec : Decoder) (writes : List Pending), Confined (applyAll dec writes)) ∧
    (∀ s : State, s.cfg.decode = .standard → s.decoder.write = defaultWrite) ∧
    (∀ (s : State) (n : Nat), s.cfg.decode = .other n → s.decoder.write = confine (Config.openDecode n)) ∧
    State.reset.cfg.decode = .standard

/-- 30_encoding.md R73: the expansions of `VOL`, `NOISE` and `SILENCE` as `ENQ` instructions with one timestamp, their
bytes by the formulas of R72, and what the bytes write under the default decode: one attenuation, `controlBits` as flag
and rate, and 15 to the four attenuations; no other register but the latch. -/
def Obligations.VolNoiseSilenceExpandToTheirWrites : Prop :=
  ∀ (ts : BitVec cycleWidth) (r : Regs),
    (∀ (c : Fin 4) (a : BitVec 4),
      (expand (.vol ts c a)).map lineInstr = [.enq ts.toNat (BitVec.ofNat 8 (0x90 + 32 * c.val + a.toNat))] ∧
      defaultDecode.write (BitVec.ofNat 8 (0x90 + 32 * c.val + a.toNat)) r =
        { r with latchCh := BitVec.ofNat 2 c, latchType := 1, attenuation := r.attenuation.set c a }) ∧
    (∀ (w : BitVec 1) (rate : BitVec 2),
      (expand (.noise ts w rate)).map lineInstr =
        [.enq ts.toNat (BitVec.ofNat 8 (0xE0 + 4 * w.toNat + rate.toNat))] ∧
      defaultDecode.write (BitVec.ofNat 8 (0xE0 + 4 * w.toNat + rate.toNat)) r =
        { r with latchCh := 3, latchType := 0, controlBits := w ++ rate }) ∧
    (expand (.silence ts)).map lineInstr =
      [.enq ts.toNat 0x9F, .enq ts.toNat 0xBF, .enq ts.toNat 0xDF, .enq ts.toNat 0xFF] ∧
    applyAll defaultDecode [⟨ts.toNat, 0x9F⟩, ⟨ts.toNat, 0xBF⟩, ⟨ts.toNat, 0xDF⟩, ⟨ts.toNat, 0xFF⟩] r =
      { r with latchCh := 3, latchType := 1, attenuation := #v[15, 15, 15, 15] }
end

