-- ==== Sys2Proof/Laws/State.lean ====
section
/-! SUPPORT. One lemma per field per update: what each named operation writes and what it leaves. -/

namespace Sys2Proof.Machine

/-! ## Updates of `State` -/

@[simp] theorem setRegs_cfg (s : State) (r : Regs) : (s.setRegs r).cfg = s.cfg := rfl
@[simp] theorem setRegs_regs (s : State) (r : Regs) : (s.setRegs r).regs = r := rfl
@[simp] theorem setRegs_countdown (s : State) (r : Regs) : (s.setRegs r).countdown = s.countdown := rfl
@[simp] theorem setRegs_level (s : State) (r : Regs) : (s.setRegs r).level = s.level := rfl
@[simp] theorem setRegs_shiftRegister (s : State) (r : Regs) : (s.setRegs r).shiftRegister = s.shiftRegister := rfl
@[simp] theorem setRegs_tickParity (s : State) (r : Regs) : (s.setRegs r).tickParity = s.tickParity := rfl
@[simp] theorem setRegs_queue (s : State) (r : Regs) : (s.setRegs r).queue = s.queue := rfl
@[simp] theorem setRegs_lastTs (s : State) (r : Regs) : (s.setRegs r).lastTs = s.lastTs := rfl
@[simp] theorem setRegs_lastSampled (s : State) (r : Regs) : (s.setRegs r).lastSampled = s.lastSampled := rfl
@[simp] theorem setRegs_acc (s : State) (r : Regs) : (s.setRegs r).acc = s.acc := rfl
@[simp] theorem setRegs_faulted (s : State) (r : Regs) : (s.setRegs r).faulted = s.faulted := rfl
@[simp] theorem setRegs_commands (s : State) (r : Regs) : (s.setRegs r).commands = s.commands := rfl
@[simp] theorem setRegs_out (s : State) (r : Regs) : (s.setRegs r).out = s.out := rfl
@[simp] theorem setRegs_response (s : State) (r : Regs) : (s.setRegs r).response = s.response := rfl

@[simp] theorem setCountdown_cfg (s : State) (c : Fin 4) (v : Int) : (s.setCountdown c v).cfg = s.cfg := rfl
@[simp] theorem setCountdown_regs (s : State) (c : Fin 4) (v : Int) : (s.setCountdown c v).regs = s.regs := rfl
@[simp] theorem setCountdown_countdown (s : State) (c : Fin 4) (v : Int) : (s.setCountdown c v).countdown = s.countdown.set c v := rfl
@[simp] theorem setCountdown_level (s : State) (c : Fin 4) (v : Int) : (s.setCountdown c v).level = s.level := rfl
@[simp] theorem setCountdown_shiftRegister (s : State) (c : Fin 4) (v : Int) : (s.setCountdown c v).shiftRegister = s.shiftRegister := rfl
@[simp] theorem setCountdown_tickParity (s : State) (c : Fin 4) (v : Int) : (s.setCountdown c v).tickParity = s.tickParity := rfl
@[simp] theorem setCountdown_queue (s : State) (c : Fin 4) (v : Int) : (s.setCountdown c v).queue = s.queue := rfl
@[simp] theorem setCountdown_lastTs (s : State) (c : Fin 4) (v : Int) : (s.setCountdown c v).lastTs = s.lastTs := rfl
@[simp] theorem setCountdown_lastSampled (s : State) (c : Fin 4) (v : Int) : (s.setCountdown c v).lastSampled = s.lastSampled := rfl
@[simp] theorem setCountdown_acc (s : State) (c : Fin 4) (v : Int) : (s.setCountdown c v).acc = s.acc := rfl
@[simp] theorem setCountdown_faulted (s : State) (c : Fin 4) (v : Int) : (s.setCountdown c v).faulted = s.faulted := rfl
@[simp] theorem setCountdown_commands (s : State) (c : Fin 4) (v : Int) : (s.setCountdown c v).commands = s.commands := rfl
@[simp] theorem setCountdown_out (s : State) (c : Fin 4) (v : Int) : (s.setCountdown c v).out = s.out := rfl
@[simp] theorem setCountdown_response (s : State) (c : Fin 4) (v : Int) : (s.setCountdown c v).response = s.response := rfl

@[simp] theorem setLevel_cfg (s : State) (c : Fin 4) (v : BitVec 1) : (s.setLevel c v).cfg = s.cfg := rfl
@[simp] theorem setLevel_regs (s : State) (c : Fin 4) (v : BitVec 1) : (s.setLevel c v).regs = s.regs := rfl
@[simp] theorem setLevel_countdown (s : State) (c : Fin 4) (v : BitVec 1) : (s.setLevel c v).countdown = s.countdown := rfl
@[simp] theorem setLevel_level (s : State) (c : Fin 4) (v : BitVec 1) : (s.setLevel c v).level = s.level.set c v := rfl
@[simp] theorem setLevel_shiftRegister (s : State) (c : Fin 4) (v : BitVec 1) : (s.setLevel c v).shiftRegister = s.shiftRegister := rfl
@[simp] theorem setLevel_tickParity (s : State) (c : Fin 4) (v : BitVec 1) : (s.setLevel c v).tickParity = s.tickParity := rfl
@[simp] theorem setLevel_queue (s : State) (c : Fin 4) (v : BitVec 1) : (s.setLevel c v).queue = s.queue := rfl
@[simp] theorem setLevel_lastTs (s : State) (c : Fin 4) (v : BitVec 1) : (s.setLevel c v).lastTs = s.lastTs := rfl
@[simp] theorem setLevel_lastSampled (s : State) (c : Fin 4) (v : BitVec 1) : (s.setLevel c v).lastSampled = s.lastSampled := rfl
@[simp] theorem setLevel_acc (s : State) (c : Fin 4) (v : BitVec 1) : (s.setLevel c v).acc = s.acc := rfl
@[simp] theorem setLevel_faulted (s : State) (c : Fin 4) (v : BitVec 1) : (s.setLevel c v).faulted = s.faulted := rfl
@[simp] theorem setLevel_commands (s : State) (c : Fin 4) (v : BitVec 1) : (s.setLevel c v).commands = s.commands := rfl
@[simp] theorem setLevel_out (s : State) (c : Fin 4) (v : BitVec 1) : (s.setLevel c v).out = s.out := rfl
@[simp] theorem setLevel_response (s : State) (c : Fin 4) (v : BitVec 1) : (s.setLevel c v).response = s.response := rfl

@[simp] theorem setShiftRegister_cfg (s : State) (v : Nat) : (s.setShiftRegister v).cfg = s.cfg := rfl
@[simp] theorem setShiftRegister_regs (s : State) (v : Nat) : (s.setShiftRegister v).regs = s.regs := rfl
@[simp] theorem setShiftRegister_countdown (s : State) (v : Nat) : (s.setShiftRegister v).countdown = s.countdown := rfl
@[simp] theorem setShiftRegister_level (s : State) (v : Nat) : (s.setShiftRegister v).level = s.level := rfl
@[simp] theorem setShiftRegister_shiftRegister (s : State) (v : Nat) : (s.setShiftRegister v).shiftRegister = v := rfl
@[simp] theorem setShiftRegister_tickParity (s : State) (v : Nat) : (s.setShiftRegister v).tickParity = s.tickParity := rfl
@[simp] theorem setShiftRegister_queue (s : State) (v : Nat) : (s.setShiftRegister v).queue = s.queue := rfl
@[simp] theorem setShiftRegister_lastTs (s : State) (v : Nat) : (s.setShiftRegister v).lastTs = s.lastTs := rfl
@[simp] theorem setShiftRegister_lastSampled (s : State) (v : Nat) : (s.setShiftRegister v).lastSampled = s.lastSampled := rfl
@[simp] theorem setShiftRegister_acc (s : State) (v : Nat) : (s.setShiftRegister v).acc = s.acc := rfl
@[simp] theorem setShiftRegister_faulted (s : State) (v : Nat) : (s.setShiftRegister v).faulted = s.faulted := rfl
@[simp] theorem setShiftRegister_commands (s : State) (v : Nat) : (s.setShiftRegister v).commands = s.commands := rfl
@[simp] theorem setShiftRegister_out (s : State) (v : Nat) : (s.setShiftRegister v).out = s.out := rfl
@[simp] theorem setShiftRegister_response (s : State) (v : Nat) : (s.setShiftRegister v).response = s.response := rfl

@[simp] theorem setTickParity_cfg (s : State) (v : BitVec 1) : (s.setTickParity v).cfg = s.cfg := rfl
@[simp] theorem setTickParity_regs (s : State) (v : BitVec 1) : (s.setTickParity v).regs = s.regs := rfl
@[simp] theorem setTickParity_countdown (s : State) (v : BitVec 1) : (s.setTickParity v).countdown = s.countdown := rfl
@[simp] theorem setTickParity_level (s : State) (v : BitVec 1) : (s.setTickParity v).level = s.level := rfl
@[simp] theorem setTickParity_shiftRegister (s : State) (v : BitVec 1) : (s.setTickParity v).shiftRegister = s.shiftRegister := rfl
@[simp] theorem setTickParity_tickParity (s : State) (v : BitVec 1) : (s.setTickParity v).tickParity = v := rfl
@[simp] theorem setTickParity_queue (s : State) (v : BitVec 1) : (s.setTickParity v).queue = s.queue := rfl
@[simp] theorem setTickParity_lastTs (s : State) (v : BitVec 1) : (s.setTickParity v).lastTs = s.lastTs := rfl
@[simp] theorem setTickParity_lastSampled (s : State) (v : BitVec 1) : (s.setTickParity v).lastSampled = s.lastSampled := rfl
@[simp] theorem setTickParity_acc (s : State) (v : BitVec 1) : (s.setTickParity v).acc = s.acc := rfl
@[simp] theorem setTickParity_faulted (s : State) (v : BitVec 1) : (s.setTickParity v).faulted = s.faulted := rfl
@[simp] theorem setTickParity_commands (s : State) (v : BitVec 1) : (s.setTickParity v).commands = s.commands := rfl
@[simp] theorem setTickParity_out (s : State) (v : BitVec 1) : (s.setTickParity v).out = s.out := rfl
@[simp] theorem setTickParity_response (s : State) (v : BitVec 1) : (s.setTickParity v).response = s.response := rfl

@[simp] theorem setAcc_cfg (s : State) (v : Int) : (s.setAcc v).cfg = s.cfg := rfl
@[simp] theorem setAcc_regs (s : State) (v : Int) : (s.setAcc v).regs = s.regs := rfl
@[simp] theorem setAcc_countdown (s : State) (v : Int) : (s.setAcc v).countdown = s.countdown := rfl
@[simp] theorem setAcc_level (s : State) (v : Int) : (s.setAcc v).level = s.level := rfl
@[simp] theorem setAcc_shiftRegister (s : State) (v : Int) : (s.setAcc v).shiftRegister = s.shiftRegister := rfl
@[simp] theorem setAcc_tickParity (s : State) (v : Int) : (s.setAcc v).tickParity = s.tickParity := rfl
@[simp] theorem setAcc_queue (s : State) (v : Int) : (s.setAcc v).queue = s.queue := rfl
@[simp] theorem setAcc_lastTs (s : State) (v : Int) : (s.setAcc v).lastTs = s.lastTs := rfl
@[simp] theorem setAcc_lastSampled (s : State) (v : Int) : (s.setAcc v).lastSampled = s.lastSampled := rfl
@[simp] theorem setAcc_acc (s : State) (v : Int) : (s.setAcc v).acc = v := rfl
@[simp] theorem setAcc_faulted (s : State) (v : Int) : (s.setAcc v).faulted = s.faulted := rfl
@[simp] theorem setAcc_commands (s : State) (v : Int) : (s.setAcc v).commands = s.commands := rfl
@[simp] theorem setAcc_out (s : State) (v : Int) : (s.setAcc v).out = s.out := rfl
@[simp] theorem setAcc_response (s : State) (v : Int) : (s.setAcc v).response = s.response := rfl

@[simp] theorem setLastSampled_cfg (s : State) (now : Nat) : (s.setLastSampled now).cfg = s.cfg := rfl
@[simp] theorem setLastSampled_regs (s : State) (now : Nat) : (s.setLastSampled now).regs = s.regs := rfl
@[simp] theorem setLastSampled_countdown (s : State) (now : Nat) : (s.setLastSampled now).countdown = s.countdown := rfl
@[simp] theorem setLastSampled_level (s : State) (now : Nat) : (s.setLastSampled now).level = s.level := rfl
@[simp] theorem setLastSampled_shiftRegister (s : State) (now : Nat) : (s.setLastSampled now).shiftRegister = s.shiftRegister := rfl
@[simp] theorem setLastSampled_tickParity (s : State) (now : Nat) : (s.setLastSampled now).tickParity = s.tickParity := rfl
@[simp] theorem setLastSampled_queue (s : State) (now : Nat) : (s.setLastSampled now).queue = s.queue := rfl
@[simp] theorem setLastSampled_lastTs (s : State) (now : Nat) : (s.setLastSampled now).lastTs = s.lastTs := rfl
@[simp] theorem setLastSampled_lastSampled (s : State) (now : Nat) : (s.setLastSampled now).lastSampled = now := rfl
@[simp] theorem setLastSampled_acc (s : State) (now : Nat) : (s.setLastSampled now).acc = s.acc := rfl
@[simp] theorem setLastSampled_faulted (s : State) (now : Nat) : (s.setLastSampled now).faulted = s.faulted := rfl
@[simp] theorem setLastSampled_commands (s : State) (now : Nat) : (s.setLastSampled now).commands = s.commands := rfl
@[simp] theorem setLastSampled_out (s : State) (now : Nat) : (s.setLastSampled now).out = s.out := rfl
@[simp] theorem setLastSampled_response (s : State) (now : Nat) : (s.setLastSampled now).response = s.response := rfl

@[simp] theorem setQueue_cfg (s : State) (q : List Pending) : (s.setQueue q).cfg = s.cfg := rfl
@[simp] theorem setQueue_regs (s : State) (q : List Pending) : (s.setQueue q).regs = s.regs := rfl
@[simp] theorem setQueue_countdown (s : State) (q : List Pending) : (s.setQueue q).countdown = s.countdown := rfl
@[simp] theorem setQueue_level (s : State) (q : List Pending) : (s.setQueue q).level = s.level := rfl
@[simp] theorem setQueue_shiftRegister (s : State) (q : List Pending) : (s.setQueue q).shiftRegister = s.shiftRegister := rfl
@[simp] theorem setQueue_tickParity (s : State) (q : List Pending) : (s.setQueue q).tickParity = s.tickParity := rfl
@[simp] theorem setQueue_queue (s : State) (q : List Pending) : (s.setQueue q).queue = q := rfl
@[simp] theorem setQueue_lastTs (s : State) (q : List Pending) : (s.setQueue q).lastTs = s.lastTs := rfl
@[simp] theorem setQueue_lastSampled (s : State) (q : List Pending) : (s.setQueue q).lastSampled = s.lastSampled := rfl
@[simp] theorem setQueue_acc (s : State) (q : List Pending) : (s.setQueue q).acc = s.acc := rfl
@[simp] theorem setQueue_faulted (s : State) (q : List Pending) : (s.setQueue q).faulted = s.faulted := rfl
@[simp] theorem setQueue_commands (s : State) (q : List Pending) : (s.setQueue q).commands = s.commands := rfl
@[simp] theorem setQueue_out (s : State) (q : List Pending) : (s.setQueue q).out = s.out := rfl
@[simp] theorem setQueue_response (s : State) (q : List Pending) : (s.setQueue q).response = s.response := rfl

@[simp] theorem push_cfg (s : State) (ts : Nat) (payload : Byte) : (s.push ts payload).cfg = s.cfg := rfl
@[simp] theorem push_regs (s : State) (ts : Nat) (payload : Byte) : (s.push ts payload).regs = s.regs := rfl
@[simp] theorem push_countdown (s : State) (ts : Nat) (payload : Byte) : (s.push ts payload).countdown = s.countdown := rfl
@[simp] theorem push_level (s : State) (ts : Nat) (payload : Byte) : (s.push ts payload).level = s.level := rfl
@[simp] theorem push_shiftRegister (s : State) (ts : Nat) (payload : Byte) : (s.push ts payload).shiftRegister = s.shiftRegister := rfl
@[simp] theorem push_tickParity (s : State) (ts : Nat) (payload : Byte) : (s.push ts payload).tickParity = s.tickParity := rfl
@[simp] theorem push_queue (s : State) (ts : Nat) (payload : Byte) : (s.push ts payload).queue = s.queue ++ [⟨ts, payload⟩] := rfl
@[simp] theorem push_lastTs (s : State) (ts : Nat) (payload : Byte) : (s.push ts payload).lastTs = some ts := rfl
@[simp] theorem push_lastSampled (s : State) (ts : Nat) (payload : Byte) : (s.push ts payload).lastSampled = s.lastSampled := rfl
@[simp] theorem push_acc (s : State) (ts : Nat) (payload : Byte) : (s.push ts payload).acc = s.acc := rfl
@[simp] theorem push_faulted (s : State) (ts : Nat) (payload : Byte) : (s.push ts payload).faulted = s.faulted := rfl
@[simp] theorem push_commands (s : State) (ts : Nat) (payload : Byte) : (s.push ts payload).commands = s.commands := rfl
@[simp] theorem push_out (s : State) (ts : Nat) (payload : Byte) : (s.push ts payload).out = s.out := rfl
@[simp] theorem push_response (s : State) (ts : Nat) (payload : Byte) : (s.push ts payload).response = s.response := rfl

@[simp] theorem emit_cfg (s : State) (l r : Sample) : (s.emit l r).cfg = s.cfg := rfl
@[simp] theorem emit_regs (s : State) (l r : Sample) : (s.emit l r).regs = s.regs := rfl
@[simp] theorem emit_countdown (s : State) (l r : Sample) : (s.emit l r).countdown = s.countdown := rfl
@[simp] theorem emit_level (s : State) (l r : Sample) : (s.emit l r).level = s.level := rfl
@[simp] theorem emit_shiftRegister (s : State) (l r : Sample) : (s.emit l r).shiftRegister = s.shiftRegister := rfl
@[simp] theorem emit_tickParity (s : State) (l r : Sample) : (s.emit l r).tickParity = s.tickParity := rfl
@[simp] theorem emit_queue (s : State) (l r : Sample) : (s.emit l r).queue = s.queue := rfl
@[simp] theorem emit_lastTs (s : State) (l r : Sample) : (s.emit l r).lastTs = s.lastTs := rfl
@[simp] theorem emit_lastSampled (s : State) (l r : Sample) : (s.emit l r).lastSampled = s.lastSampled := rfl
@[simp] theorem emit_acc (s : State) (l r : Sample) : (s.emit l r).acc = s.acc := rfl
@[simp] theorem emit_faulted (s : State) (l r : Sample) : (s.emit l r).faulted = s.faulted := rfl
@[simp] theorem emit_commands (s : State) (l r : Sample) : (s.emit l r).commands = s.commands := rfl
@[simp] theorem emit_out (s : State) (l r : Sample) : (s.emit l r).out = s.out ++ [⟨l, r⟩] := rfl
@[simp] theorem emit_response (s : State) (l r : Sample) : (s.emit l r).response = s.response := rfl

@[simp] theorem begin_cfg (s : State) : s.begin.cfg = s.cfg := rfl
@[simp] theorem begin_regs (s : State) : s.begin.regs = s.regs := rfl
@[simp] theorem begin_countdown (s : State) : s.begin.countdown = s.countdown := rfl
@[simp] theorem begin_level (s : State) : s.begin.level = s.level := rfl
@[simp] theorem begin_shiftRegister (s : State) : s.begin.shiftRegister = s.shiftRegister := rfl
@[simp] theorem begin_tickParity (s : State) : s.begin.tickParity = s.tickParity := rfl
@[simp] theorem begin_queue (s : State) : s.begin.queue = s.queue := rfl
@[simp] theorem begin_lastTs (s : State) : s.begin.lastTs = s.lastTs := rfl
@[simp] theorem begin_lastSampled (s : State) : s.begin.lastSampled = s.lastSampled := rfl
@[simp] theorem begin_acc (s : State) : s.begin.acc = s.acc := rfl
@[simp] theorem begin_faulted (s : State) : s.begin.faulted = s.faulted := rfl
@[simp] theorem begin_commands (s : State) : s.begin.commands = s.commands := rfl
@[simp] theorem begin_out (s : State) : s.begin.out = [] := rfl
@[simp] theorem begin_response (s : State) : s.begin.response = .completed := rfl

@[simp] theorem raise_cfg (s : State) (code : FaultCode) : (s.raise code).cfg = s.cfg := rfl
@[simp] theorem raise_regs (s : State) (code : FaultCode) : (s.raise code).regs = s.regs := rfl
@[simp] theorem raise_countdown (s : State) (code : FaultCode) : (s.raise code).countdown = s.countdown := rfl
@[simp] theorem raise_level (s : State) (code : FaultCode) : (s.raise code).level = s.level := rfl
@[simp] theorem raise_shiftRegister (s : State) (code : FaultCode) : (s.raise code).shiftRegister = s.shiftRegister := rfl
@[simp] theorem raise_tickParity (s : State) (code : FaultCode) : (s.raise code).tickParity = s.tickParity := rfl
@[simp] theorem raise_queue (s : State) (code : FaultCode) : (s.raise code).queue = s.queue := rfl
@[simp] theorem raise_lastTs (s : State) (code : FaultCode) : (s.raise code).lastTs = s.lastTs := rfl
@[simp] theorem raise_lastSampled (s : State) (code : FaultCode) : (s.raise code).lastSampled = s.lastSampled := rfl
@[simp] theorem raise_acc (s : State) (code : FaultCode) : (s.raise code).acc = s.acc := rfl
@[simp] theorem raise_faulted (s : State) (code : FaultCode) : (s.raise code).faulted = some code := rfl
@[simp] theorem raise_commands (s : State) (code : FaultCode) : (s.raise code).commands = s.commands := rfl
@[simp] theorem raise_out (s : State) (code : FaultCode) : (s.raise code).out = [] := rfl
@[simp] theorem raise_response (s : State) (code : FaultCode) : (s.raise code).response = .raised code := rfl

@[simp] theorem turnAway_cfg (s : State) (code : FaultCode) : (s.turnAway code).cfg = s.cfg := rfl
@[simp] theorem turnAway_regs (s : State) (code : FaultCode) : (s.turnAway code).regs = s.regs := rfl
@[simp] theorem turnAway_countdown (s : State) (code : FaultCode) : (s.turnAway code).countdown = s.countdown := rfl
@[simp] theorem turnAway_level (s : State) (code : FaultCode) : (s.turnAway code).level = s.level := rfl
@[simp] theorem turnAway_shiftRegister (s : State) (code : FaultCode) : (s.turnAway code).shiftRegister = s.shiftRegister := rfl
@[simp] theorem turnAway_tickParity (s : State) (code : FaultCode) : (s.turnAway code).tickParity = s.tickParity := rfl
@[simp] theorem turnAway_queue (s : State) (code : FaultCode) : (s.turnAway code).queue = s.queue := rfl
@[simp] theorem turnAway_lastTs (s : State) (code : FaultCode) : (s.turnAway code).lastTs = s.lastTs := rfl
@[simp] theorem turnAway_lastSampled (s : State) (code : FaultCode) : (s.turnAway code).lastSampled = s.lastSampled := rfl
@[simp] theorem turnAway_acc (s : State) (code : FaultCode) : (s.turnAway code).acc = s.acc := rfl
@[simp] theorem turnAway_faulted (s : State) (code : FaultCode) : (s.turnAway code).faulted = s.faulted := rfl
@[simp] theorem turnAway_commands (s : State) (code : FaultCode) : (s.turnAway code).commands = s.commands := rfl
@[simp] theorem turnAway_out (s : State) (code : FaultCode) : (s.turnAway code).out = [] := rfl
@[simp] theorem turnAway_response (s : State) (code : FaultCode) : (s.turnAway code).response = .turnedAway code := rfl

@[simp] theorem flipLevel_cfg (s : State) (c : Fin 4) : (s.flipLevel c).cfg = s.cfg := rfl
@[simp] theorem flipLevel_regs (s : State) (c : Fin 4) : (s.flipLevel c).regs = s.regs := rfl
@[simp] theorem flipLevel_countdown (s : State) (c : Fin 4) : (s.flipLevel c).countdown = s.countdown := rfl
@[simp] theorem flipLevel_level (s : State) (c : Fin 4) : (s.flipLevel c).level = s.level.set c (s.level[c] ^^^ 1#1) := rfl
@[simp] theorem flipLevel_shiftRegister (s : State) (c : Fin 4) : (s.flipLevel c).shiftRegister = s.shiftRegister := rfl
@[simp] theorem flipLevel_tickParity (s : State) (c : Fin 4) : (s.flipLevel c).tickParity = s.tickParity := rfl
@[simp] theorem flipLevel_queue (s : State) (c : Fin 4) : (s.flipLevel c).queue = s.queue := rfl
@[simp] theorem flipLevel_lastTs (s : State) (c : Fin 4) : (s.flipLevel c).lastTs = s.lastTs := rfl
@[simp] theorem flipLevel_lastSampled (s : State) (c : Fin 4) : (s.flipLevel c).lastSampled = s.lastSampled := rfl
@[simp] theorem flipLevel_acc (s : State) (c : Fin 4) : (s.flipLevel c).acc = s.acc := rfl
@[simp] theorem flipLevel_faulted (s : State) (c : Fin 4) : (s.flipLevel c).faulted = s.faulted := rfl
@[simp] theorem flipLevel_commands (s : State) (c : Fin 4) : (s.flipLevel c).commands = s.commands := rfl
@[simp] theorem flipLevel_out (s : State) (c : Fin 4) : (s.flipLevel c).out = s.out := rfl
@[simp] theorem flipLevel_response (s : State) (c : Fin 4) : (s.flipLevel c).response = s.response := rfl

@[simp] theorem decrement_cfg (s : State) (c : Fin 4) : (s.decrement c).cfg = s.cfg := rfl
@[simp] theorem decrement_regs (s : State) (c : Fin 4) : (s.decrement c).regs = s.regs := rfl
@[simp] theorem decrement_countdown (s : State) (c : Fin 4) : (s.decrement c).countdown = s.countdown.set c (s.countdown[c] - 1) := rfl
@[simp] theorem decrement_level (s : State) (c : Fin 4) : (s.decrement c).level = s.level := rfl
@[simp] theorem decrement_shiftRegister (s : State) (c : Fin 4) : (s.decrement c).shiftRegister = s.shiftRegister := rfl
@[simp] theorem decrement_tickParity (s : State) (c : Fin 4) : (s.decrement c).tickParity = s.tickParity := rfl
@[simp] theorem decrement_queue (s : State) (c : Fin 4) : (s.decrement c).queue = s.queue := rfl
@[simp] theorem decrement_lastTs (s : State) (c : Fin 4) : (s.decrement c).lastTs = s.lastTs := rfl
@[simp] theorem decrement_lastSampled (s : State) (c : Fin 4) : (s.decrement c).lastSampled = s.lastSampled := rfl
@[simp] theorem decrement_acc (s : State) (c : Fin 4) : (s.decrement c).acc = s.acc := rfl
@[simp] theorem decrement_faulted (s : State) (c : Fin 4) : (s.decrement c).faulted = s.faulted := rfl
@[simp] theorem decrement_commands (s : State) (c : Fin 4) : (s.decrement c).commands = s.commands := rfl
@[simp] theorem decrement_out (s : State) (c : Fin 4) : (s.decrement c).out = s.out := rfl
@[simp] theorem decrement_response (s : State) (c : Fin 4) : (s.decrement c).response = s.response := rfl

@[simp] theorem toggleParity_cfg (s : State) : s.toggleParity.cfg = s.cfg := rfl
@[simp] theorem toggleParity_regs (s : State) : s.toggleParity.regs = s.regs := rfl
@[simp] theorem toggleParity_countdown (s : State) : s.toggleParity.countdown = s.countdown := rfl
@[simp] theorem toggleParity_level (s : State) : s.toggleParity.level = s.level := rfl
@[simp] theorem toggleParity_shiftRegister (s : State) : s.toggleParity.shiftRegister = s.shiftRegister := rfl
@[simp] theorem toggleParity_tickParity (s : State) : s.toggleParity.tickParity = s.tickParity ^^^ 1#1 := rfl
@[simp] theorem toggleParity_queue (s : State) : s.toggleParity.queue = s.queue := rfl
@[simp] theorem toggleParity_lastTs (s : State) : s.toggleParity.lastTs = s.lastTs := rfl
@[simp] theorem toggleParity_lastSampled (s : State) : s.toggleParity.lastSampled = s.lastSampled := rfl
@[simp] theorem toggleParity_acc (s : State) : s.toggleParity.acc = s.acc := rfl
@[simp] theorem toggleParity_faulted (s : State) : s.toggleParity.faulted = s.faulted := rfl
@[simp] theorem toggleParity_commands (s : State) : s.toggleParity.commands = s.commands := rfl
@[simp] theorem toggleParity_out (s : State) : s.toggleParity.out = s.out := rfl
@[simp] theorem toggleParity_response (s : State) : s.toggleParity.response = s.response := rfl

/-! ## Updates of `Regs` -/

@[simp] theorem setLatch_divisor (r : Regs) (ch : BitVec 2) (type : BitVec 1) : (r.setLatch ch type).divisor = r.divisor := rfl
@[simp] theorem setLatch_attenuation (r : Regs) (ch : BitVec 2) (type : BitVec 1) : (r.setLatch ch type).attenuation = r.attenuation := rfl
@[simp] theorem setLatch_controlBits (r : Regs) (ch : BitVec 2) (type : BitVec 1) : (r.setLatch ch type).controlBits = r.controlBits := rfl
@[simp] theorem setLatch_latchCh (r : Regs) (ch : BitVec 2) (type : BitVec 1) : (r.setLatch ch type).latchCh = ch := rfl
@[simp] theorem setLatch_latchType (r : Regs) (ch : BitVec 2) (type : BitVec 1) : (r.setLatch ch type).latchType = type := rfl
@[simp] theorem setLatch_ownState (r : Regs) (ch : BitVec 2) (type : BitVec 1) : (r.setLatch ch type).ownState = r.ownState := rfl

@[simp] theorem setDivisorLow_divisor (r : Regs) (c : Fin 3) (d4 : BitVec 4) : (r.setDivisorLow c d4).divisor = r.divisor.set c (withLowNibble r.divisor[c] d4) := rfl
@[simp] theorem setDivisorLow_attenuation (r : Regs) (c : Fin 3) (d4 : BitVec 4) : (r.setDivisorLow c d4).attenuation = r.attenuation := rfl
@[simp] theorem setDivisorLow_controlBits (r : Regs) (c : Fin 3) (d4 : BitVec 4) : (r.setDivisorLow c d4).controlBits = r.controlBits := rfl
@[simp] theorem setDivisorLow_latchCh (r : Regs) (c : Fin 3) (d4 : BitVec 4) : (r.setDivisorLow c d4).latchCh = r.latchCh := rfl
@[simp] theorem setDivisorLow_latchType (r : Regs) (c : Fin 3) (d4 : BitVec 4) : (r.setDivisorLow c d4).latchType = r.latchType := rfl
@[simp] theorem setDivisorLow_ownState (r : Regs) (c : Fin 3) (d4 : BitVec 4) : (r.setDivisorLow c d4).ownState = r.ownState := rfl

@[simp] theorem setDivisorHigh_divisor (r : Regs) (c : Fin 3) (d6 : BitVec 6) : (r.setDivisorHigh c d6).divisor = r.divisor.set c (withHighSix r.divisor[c] d6) := rfl
@[simp] theorem setDivisorHigh_attenuation (r : Regs) (c : Fin 3) (d6 : BitVec 6) : (r.setDivisorHigh c d6).attenuation = r.attenuation := rfl
@[simp] theorem setDivisorHigh_controlBits (r : Regs) (c : Fin 3) (d6 : BitVec 6) : (r.setDivisorHigh c d6).controlBits = r.controlBits := rfl
@[simp] theorem setDivisorHigh_latchCh (r : Regs) (c : Fin 3) (d6 : BitVec 6) : (r.setDivisorHigh c d6).latchCh = r.latchCh := rfl
@[simp] theorem setDivisorHigh_latchType (r : Regs) (c : Fin 3) (d6 : BitVec 6) : (r.setDivisorHigh c d6).latchType = r.latchType := rfl
@[simp] theorem setDivisorHigh_ownState (r : Regs) (c : Fin 3) (d6 : BitVec 6) : (r.setDivisorHigh c d6).ownState = r.ownState := rfl

@[simp] theorem setAttenuation_divisor (r : Regs) (c : Fin 4) (a : BitVec 4) : (r.setAttenuation c a).divisor = r.divisor := rfl
@[simp] theorem setAttenuation_attenuation (r : Regs) (c : Fin 4) (a : BitVec 4) : (r.setAttenuation c a).attenuation = r.attenuation.set c a := rfl
@[simp] theorem setAttenuation_controlBits (r : Regs) (c : Fin 4) (a : BitVec 4) : (r.setAttenuation c a).controlBits = r.controlBits := rfl
@[simp] theorem setAttenuation_latchCh (r : Regs) (c : Fin 4) (a : BitVec 4) : (r.setAttenuation c a).latchCh = r.latchCh := rfl
@[simp] theorem setAttenuation_latchType (r : Regs) (c : Fin 4) (a : BitVec 4) : (r.setAttenuation c a).latchType = r.latchType := rfl
@[simp] theorem setAttenuation_ownState (r : Regs) (c : Fin 4) (a : BitVec 4) : (r.setAttenuation c a).ownState = r.ownState := rfl

@[simp] theorem setControl_divisor (r : Regs) (v : BitVec 3) : (r.setControl v).divisor = r.divisor := rfl
@[simp] theorem setControl_attenuation (r : Regs) (v : BitVec 3) : (r.setControl v).attenuation = r.attenuation := rfl
@[simp] theorem setControl_controlBits (r : Regs) (v : BitVec 3) : (r.setControl v).controlBits = v := rfl
@[simp] theorem setControl_latchCh (r : Regs) (v : BitVec 3) : (r.setControl v).latchCh = r.latchCh := rfl
@[simp] theorem setControl_latchType (r : Regs) (v : BitVec 3) : (r.setControl v).latchType = r.latchType := rfl
@[simp] theorem setControl_ownState (r : Regs) (v : BitVec 3) : (r.setControl v).ownState = r.ownState := rfl

/-! ## `RESET` -/

@[simp] theorem construct_cfg (s : State) : s.construct.cfg = s.cfg := rfl
@[simp] theorem construct_regs (s : State) : s.construct.regs = Regs.reset := rfl
@[simp] theorem construct_countdown (s : State) : s.construct.countdown = #v[0, 0, 0, 0] := rfl
@[simp] theorem construct_level (s : State) : s.construct.level = #v[0, 0, 0, BitVec.ofNat 1 s.cfg.srInit] := rfl
@[simp] theorem construct_shiftRegister (s : State) : s.construct.shiftRegister = s.cfg.srInit := rfl
@[simp] theorem construct_tickParity (s : State) : s.construct.tickParity = 0 := rfl
@[simp] theorem construct_queue (s : State) : s.construct.queue = [] := rfl
@[simp] theorem construct_lastTs (s : State) : s.construct.lastTs = none := rfl
@[simp] theorem construct_lastSampled (s : State) : s.construct.lastSampled = 0 := rfl
@[simp] theorem construct_acc (s : State) : s.construct.acc = 0 := rfl
@[simp] theorem construct_faulted (s : State) : s.construct.faulted = none := rfl
@[simp] theorem construct_commands (s : State) : s.construct.commands = s.commands := rfl
@[simp] theorem construct_out (s : State) : s.construct.out = [] := rfl
@[simp] theorem construct_response (s : State) : s.construct.response = .completed := rfl

/-- Two states with equal fields are equal. -/
theorem State.ext_fields {s t : State} (h₁ : s.cfg = t.cfg) (h₂ : s.regs = t.regs) (h₃ : s.countdown = t.countdown)
    (h₄ : s.level = t.level) (h₅ : s.shiftRegister = t.shiftRegister) (h₆ : s.tickParity = t.tickParity)
    (h₇ : s.queue = t.queue) (h₈ : s.lastTs = t.lastTs) (h₉ : s.lastSampled = t.lastSampled) (h₁₀ : s.acc = t.acc)
    (h₁₁ : s.faulted = t.faulted) (h₁₂ : s.commands = t.commands) (h₁₃ : s.out = t.out)
    (h₁₄ : s.response = t.response) : s = t := by
  cases s; cases t; simp_all

end Sys2Proof.Machine
end

