-- ==== Sys2Proof/Laws/Generators.lean ====
section
/-! SUPPORT. What a tone step, a noise step and a tick do, and what they leave. -/

namespace Sys2Proof.Machine

/-! ## Tone -/

/-- The level of a tone channel after its step. -/
def State.toneLevel (s : State) (c : Fin 3) : BitVec 1 :=
  if s.expired (toneChannel c) then s.level[toneChannel c] ^^^ 1#1 else s.level[toneChannel c]

/-- The countdown of a tone channel after its step. -/
def State.toneCount (s : State) (c : Fin 3) : Int :=
  (if s.expired (toneChannel c) then (s.regs.toneReload c : Int) else s.countdown[toneChannel c]) - 1

/-- A tone step writes the level and the countdown of its channel, each once. -/
theorem toneStep_eq (s : State) (c : Fin 3) :
    s.toneStep c = { s with
      level := s.level.set (toneChannel c) (s.toneLevel c)
      countdown := s.countdown.set (toneChannel c) (s.toneCount c) } := by
  by_cases h : s.expired (toneChannel c) = true
  · simp [State.toneStep, State.toneExpire, State.toneLevel, State.toneCount, State.decrement, State.flipLevel,
      State.setCountdown, State.setLevel, h]
  · simp [State.toneStep, State.toneLevel, State.toneCount, State.decrement, State.setCountdown, h]

@[simp] theorem toneStep_cfg (s : State) (c : Fin 3) : (s.toneStep c).cfg = s.cfg := by rw [toneStep_eq]
@[simp] theorem toneStep_regs (s : State) (c : Fin 3) : (s.toneStep c).regs = s.regs := by rw [toneStep_eq]
@[simp] theorem toneStep_shiftRegister (s : State) (c : Fin 3) : (s.toneStep c).shiftRegister = s.shiftRegister := by rw [toneStep_eq]
@[simp] theorem toneStep_tickParity (s : State) (c : Fin 3) : (s.toneStep c).tickParity = s.tickParity := by rw [toneStep_eq]
@[simp] theorem toneStep_queue (s : State) (c : Fin 3) : (s.toneStep c).queue = s.queue := by rw [toneStep_eq]
@[simp] theorem toneStep_lastTs (s : State) (c : Fin 3) : (s.toneStep c).lastTs = s.lastTs := by rw [toneStep_eq]
@[simp] theorem toneStep_lastSampled (s : State) (c : Fin 3) : (s.toneStep c).lastSampled = s.lastSampled := by rw [toneStep_eq]
@[simp] theorem toneStep_acc (s : State) (c : Fin 3) : (s.toneStep c).acc = s.acc := by rw [toneStep_eq]
@[simp] theorem toneStep_faulted (s : State) (c : Fin 3) : (s.toneStep c).faulted = s.faulted := by rw [toneStep_eq]
@[simp] theorem toneStep_commands (s : State) (c : Fin 3) : (s.toneStep c).commands = s.commands := by rw [toneStep_eq]
@[simp] theorem toneStep_out (s : State) (c : Fin 3) : (s.toneStep c).out = s.out := by rw [toneStep_eq]
@[simp] theorem toneStep_response (s : State) (c : Fin 3) : (s.toneStep c).response = s.response := by rw [toneStep_eq]

@[simp] theorem toneStep_level (s : State) (c : Fin 3) :
    (s.toneStep c).level = s.level.set (toneChannel c) (s.toneLevel c) := by rw [toneStep_eq]

@[simp] theorem toneStep_countdown (s : State) (c : Fin 3) :
    (s.toneStep c).countdown = s.countdown.set (toneChannel c) (s.toneCount c) := by rw [toneStep_eq]

/-! ## Noise -/

@[simp] theorem lfsrShift_cfg (s : State) : s.lfsrShift.cfg = s.cfg := rfl
@[simp] theorem lfsrShift_regs (s : State) : s.lfsrShift.regs = s.regs := rfl
@[simp] theorem lfsrShift_countdown (s : State) : s.lfsrShift.countdown = s.countdown := rfl
@[simp] theorem lfsrShift_tickParity (s : State) : s.lfsrShift.tickParity = s.tickParity := rfl
@[simp] theorem lfsrShift_queue (s : State) : s.lfsrShift.queue = s.queue := rfl
@[simp] theorem lfsrShift_lastTs (s : State) : s.lfsrShift.lastTs = s.lastTs := rfl
@[simp] theorem lfsrShift_lastSampled (s : State) : s.lfsrShift.lastSampled = s.lastSampled := rfl
@[simp] theorem lfsrShift_acc (s : State) : s.lfsrShift.acc = s.acc := rfl
@[simp] theorem lfsrShift_faulted (s : State) : s.lfsrShift.faulted = s.faulted := rfl
@[simp] theorem lfsrShift_commands (s : State) : s.lfsrShift.commands = s.commands := rfl
@[simp] theorem lfsrShift_out (s : State) : s.lfsrShift.out = s.out := rfl
@[simp] theorem lfsrShift_response (s : State) : s.lfsrShift.response = s.response := rfl

@[simp] theorem lfsrShift_shiftRegister (s : State) :
    s.lfsrShift.shiftRegister = shiftIn s.cfg.srWidth s.shiftRegister s.feed := rfl

@[simp] theorem lfsrShift_level (s : State) :
    s.lfsrShift.level = s.level.set noiseChannel (BitVec.ofNat 1 s.lfsrShift.shiftRegister) := rfl

/-- Whether a noise step shifts: an expiry whose toggle opens the gate (43_noise.md R123). -/
def State.noiseShifts (s : State) : Bool :=
  s.expired noiseChannel && (s.tickParity ^^^ 1#1 == s.cfg.parityActive)

/-- The shift register after a noise step. -/
def State.noiseRegister (s : State) : Nat :=
  if s.noiseShifts then shiftIn s.cfg.srWidth s.shiftRegister s.feed else s.shiftRegister

/-- `level[3]` after a noise step. -/
def State.noiseLevel (s : State) : BitVec 1 :=
  if s.noiseShifts then BitVec.ofNat 1 (shiftIn s.cfg.srWidth s.shiftRegister s.feed) else s.level[noiseChannel]

/-- `countdown[3]` after a noise step. -/
def State.noiseCount (s : State) : Int :=
  (if s.expired noiseChannel then (s.noiseReload : Int) else s.countdown[noiseChannel]) - 1

/-- `tickParity` after a noise step. -/
def State.noiseParity (s : State) : BitVec 1 :=
  if s.expired noiseChannel then s.tickParity ^^^ 1#1 else s.tickParity

/-- A noise step writes the four elements of the noise channel, each once. -/
theorem noiseStep_eq (s : State) :
    s.noiseStep = { s with
      countdown := s.countdown.set noiseChannel s.noiseCount
      level := s.level.set noiseChannel s.noiseLevel
      shiftRegister := s.noiseRegister
      tickParity := s.noiseParity } := by
  by_cases h : s.expired noiseChannel = true
  · by_cases g : s.tickParity ^^^ 1#1 = s.cfg.parityActive
    · simp [State.noiseStep, State.noiseExpire, State.parityGateOpen, State.noiseCount, State.noiseLevel,
        State.noiseRegister, State.noiseParity, State.noiseShifts, State.decrement, State.toggleParity,
        State.setCountdown, State.setTickParity, State.lfsrShift, State.setShiftRegister, State.setLevel,
        State.feed, h, g]
    · simp [State.noiseStep, State.noiseExpire, State.parityGateOpen, State.noiseCount, State.noiseLevel,
        State.noiseRegister, State.noiseParity, State.noiseShifts, State.decrement, State.toggleParity,
        State.setCountdown, State.setTickParity, h, g]
  · simp [State.noiseStep, State.noiseCount, State.noiseLevel, State.noiseRegister, State.noiseParity,
      State.noiseShifts, State.decrement, State.setCountdown, h]

@[simp] theorem noiseStep_cfg (s : State) : s.noiseStep.cfg = s.cfg := by rw [noiseStep_eq]
@[simp] theorem noiseStep_regs (s : State) : s.noiseStep.regs = s.regs := by rw [noiseStep_eq]
@[simp] theorem noiseStep_queue (s : State) : s.noiseStep.queue = s.queue := by rw [noiseStep_eq]
@[simp] theorem noiseStep_lastTs (s : State) : s.noiseStep.lastTs = s.lastTs := by rw [noiseStep_eq]
@[simp] theorem noiseStep_lastSampled (s : State) : s.noiseStep.lastSampled = s.lastSampled := by rw [noiseStep_eq]
@[simp] theorem noiseStep_acc (s : State) : s.noiseStep.acc = s.acc := by rw [noiseStep_eq]
@[simp] theorem noiseStep_faulted (s : State) : s.noiseStep.faulted = s.faulted := by rw [noiseStep_eq]
@[simp] theorem noiseStep_commands (s : State) : s.noiseStep.commands = s.commands := by rw [noiseStep_eq]
@[simp] theorem noiseStep_out (s : State) : s.noiseStep.out = s.out := by rw [noiseStep_eq]
@[simp] theorem noiseStep_response (s : State) : s.noiseStep.response = s.response := by rw [noiseStep_eq]

@[simp] theorem noiseStep_countdown (s : State) :
    s.noiseStep.countdown = s.countdown.set noiseChannel s.noiseCount := by rw [noiseStep_eq]

@[simp] theorem noiseStep_level (s : State) :
    s.noiseStep.level = s.level.set noiseChannel s.noiseLevel := by rw [noiseStep_eq]

@[simp] theorem noiseStep_shiftRegister (s : State) : s.noiseStep.shiftRegister = s.noiseRegister := by
  rw [noiseStep_eq]

@[simp] theorem noiseStep_tickParity (s : State) : s.noiseStep.tickParity = s.noiseParity := by
  rw [noiseStep_eq]

/-! ## Tick -/

@[simp] theorem tick_cfg (s : State) : s.tick.cfg = s.cfg := by simp [State.tick]
@[simp] theorem tick_regs (s : State) : s.tick.regs = s.regs := by simp [State.tick]
@[simp] theorem tick_queue (s : State) : s.tick.queue = s.queue := by simp [State.tick]
@[simp] theorem tick_lastTs (s : State) : s.tick.lastTs = s.lastTs := by simp [State.tick]
@[simp] theorem tick_lastSampled (s : State) : s.tick.lastSampled = s.lastSampled := by simp [State.tick]
@[simp] theorem tick_acc (s : State) : s.tick.acc = s.acc := by simp [State.tick]
@[simp] theorem tick_faulted (s : State) : s.tick.faulted = s.faulted := by simp [State.tick]
@[simp] theorem tick_commands (s : State) : s.tick.commands = s.commands := by simp [State.tick]
@[simp] theorem tick_out (s : State) : s.tick.out = s.out := by simp [State.tick]
@[simp] theorem tick_response (s : State) : s.tick.response = s.response := by simp [State.tick]

/-- A tone step leaves what another channel's step reads. -/
theorem toneStep_countdown_ne (s : State) {c : Fin 3} {d : Fin 4} (h : toneChannel c ≠ d) :
    (s.toneStep c).countdown[d] = s.countdown[d] := by
  have h' : (c : Nat) ≠ (d : Nat) := fun e => h (Fin.ext e)
  simp [Vector.getElem_set_ne, h']

theorem toneStep_level_ne (s : State) {c : Fin 3} {d : Fin 4} (h : toneChannel c ≠ d) :
    (s.toneStep c).level[d] = s.level[d] := by
  have h' : (c : Nat) ≠ (d : Nat) := fun e => h (Fin.ext e)
  simp [Vector.getElem_set_ne, h']

theorem toneChannel_ne {c d : Fin 3} (h : c ≠ d) : toneChannel c ≠ toneChannel d :=
  fun e => h (Fin.castSucc_injective _ e)

theorem toneChannel_ne_noise (c : Fin 3) : toneChannel c ≠ noiseChannel :=
  (Fin.castSucc_lt_last c).ne

theorem toneCount_toneStep_ne (s : State) {c d : Fin 3} (h : c ≠ d) : (s.toneStep c).toneCount d = s.toneCount d := by
  simp only [State.toneCount, State.expired, toneStep_countdown_ne s (toneChannel_ne h), toneStep_regs]
  rfl

theorem toneLevel_toneStep_ne (s : State) {c d : Fin 3} (h : c ≠ d) : (s.toneStep c).toneLevel d = s.toneLevel d := by
  simp only [State.toneLevel, State.expired, toneStep_countdown_ne s (toneChannel_ne h),
    toneStep_level_ne s (toneChannel_ne h)]
  rfl

@[simp] theorem noiseReload_toneStep (s : State) (c : Fin 3) : (s.toneStep c).noiseReload = s.noiseReload := by
  simp [State.noiseReload]

@[simp] theorem expired_noise_toneStep (s : State) (c : Fin 3) :
    (s.toneStep c).expired noiseChannel = s.expired noiseChannel := by
  simp only [State.expired, toneStep_countdown_ne s (toneChannel_ne_noise c)]

@[simp] theorem noiseShifts_toneStep (s : State) (c : Fin 3) : (s.toneStep c).noiseShifts = s.noiseShifts := by
  simp [State.noiseShifts]

@[simp] theorem noiseCount_toneStep (s : State) (c : Fin 3) : (s.toneStep c).noiseCount = s.noiseCount := by
  simp only [State.noiseCount, expired_noise_toneStep, noiseReload_toneStep,
    toneStep_countdown_ne s (toneChannel_ne_noise c)]

@[simp] theorem noiseParity_toneStep (s : State) (c : Fin 3) : (s.toneStep c).noiseParity = s.noiseParity := by
  simp [State.noiseParity]

@[simp] theorem feed_toneStep (s : State) (c : Fin 3) : (s.toneStep c).feed = s.feed := by simp [State.feed]

@[simp] theorem noiseRegister_toneStep (s : State) (c : Fin 3) :
    (s.toneStep c).noiseRegister = s.noiseRegister := by
  simp [State.noiseRegister]

@[simp] theorem noiseLevel_toneStep (s : State) (c : Fin 3) : (s.toneStep c).noiseLevel = s.noiseLevel := by
  simp only [State.noiseLevel, noiseShifts_toneStep, feed_toneStep, toneStep_shiftRegister, toneStep_cfg,
    toneStep_level_ne s (toneChannel_ne_noise c)]

/-- A noise step leaves what a tone step reads. -/
theorem noiseStep_countdown_tone (s : State) (c : Fin 3) :
    s.noiseStep.countdown[toneChannel c] = s.countdown[toneChannel c] := by
  have h : (3 : Nat) ≠ (c : Nat) := by omega
  simp [Vector.getElem_set_ne, h]

theorem noiseStep_level_tone (s : State) (c : Fin 3) :
    s.noiseStep.level[toneChannel c] = s.level[toneChannel c] := by
  have h : (3 : Nat) ≠ (c : Nat) := by omega
  simp [Vector.getElem_set_ne, h]

/-- What one tick leaves in each element of the generators: each channel's own step (41_tick_accumulator.md R103). -/
theorem tick_countdown_tone (s : State) (c : Fin 3) : s.tick.countdown[toneChannel c] = s.toneCount c := by
  rw [State.tick, noiseStep_countdown_tone]
  fin_cases c <;> simp [toneCount_toneStep_ne, Vector.getElem_set_ne]

theorem tick_level_tone (s : State) (c : Fin 3) : s.tick.level[toneChannel c] = s.toneLevel c := by
  rw [State.tick, noiseStep_level_tone]
  fin_cases c <;> simp [toneLevel_toneStep_ne, Vector.getElem_set_ne]

theorem tick_countdown_noise (s : State) : s.tick.countdown[noiseChannel] = s.noiseCount := by
  simp [State.tick]

theorem tick_level_noise (s : State) : s.tick.level[noiseChannel] = s.noiseLevel := by
  simp [State.tick]

@[simp] theorem tick_shiftRegister (s : State) : s.tick.shiftRegister = s.noiseRegister := by
  simp [State.tick]

@[simp] theorem tick_tickParity (s : State) : s.tick.tickParity = s.noiseParity := by
  simp [State.tick]

end Sys2Proof.Machine
end

