-- ==== Sys2Proof/Laws/Accumulator.lean ====
section
/-! SUPPORT. What `ACC_STEP` does: a number of ticks and one new value of `acc`. -/

namespace Sys2Proof.Machine

/-! ## Ticks do not look at `acc` -/

theorem toneStep_setAcc (s : State) (c : Fin 3) (a : Int) : (s.setAcc a).toneStep c = (s.toneStep c).setAcc a := by
  rw [toneStep_eq, toneStep_eq]; rfl

theorem noiseStep_setAcc (s : State) (a : Int) : (s.setAcc a).noiseStep = s.noiseStep.setAcc a := by
  rw [noiseStep_eq, noiseStep_eq]; rfl

theorem tick_setAcc (s : State) (a : Int) : (s.setAcc a).tick = s.tick.setAcc a := by
  simp only [State.tick, toneStep_setAcc, noiseStep_setAcc]

@[simp] theorem setAcc_setAcc (s : State) (a b : Int) : (s.setAcc a).setAcc b = s.setAcc b := rfl

@[simp] theorem setAcc_self (s : State) : s.setAcc s.acc = s := rfl

theorem iterate_tick_setAcc (s : State) (a : Int) (k : Nat) :
    State.tick^[k] (s.setAcc a) = (State.tick^[k] s).setAcc a := by
  induction k generalizing s with
  | zero => rfl
  | succ k ih => simp only [Function.iterate_succ_apply, tick_setAcc, ih]

/-! ## The number of ticks -/

theorem ticksDue_of_nonneg {a : Int} (h : 0 ≤ a) : ticksDue a = 0 := by
  simp only [ticksDue, sampleRate]; omega

theorem ticksDue_of_neg {a : Int} (h : a < 0) : ticksDue a = ticksDue (a + sampleRate) + 1 := by
  simp only [ticksDue, sampleRate]; omega

/-- The ticks that are due bring a negative `acc` just back to 0 or above. -/
theorem ticksDue_spec (a : Int) :
    0 ≤ a + 44100 * (ticksDue a : Int) ∧ (a < 0 → a + 44100 * ((ticksDue a : Int) - 1) < 0) := by
  simp only [ticksDue, sampleRate]; omega

/-! ## The loop -/

theorem tickWhileNegative_of_nonneg {s : State} (h : 0 ≤ s.acc) (k : Nat) : s.tickWhileNegative k = s := by
  cases k with
  | zero => rfl
  | succ k => simp [State.tickWhileNegative, Int.not_lt.mpr h]

/-- The loop as a number of ticks. -/
theorem tickWhileNegative_due (s : State) :
    s.tickWhileNegative (ticksDue s.acc) =
      (State.tick^[ticksDue s.acc] s).setAcc (s.acc + 44100 * (ticksDue s.acc : Int)) := by
  generalize hk : ticksDue s.acc = k
  induction k generalizing s with
  | zero => simp [State.tickWhileNegative]
  | succ k ih =>
    have hneg : s.acc < 0 := by
      by_contra h
      rw [ticksDue_of_nonneg (by omega)] at hk; omega
    have hk' : ticksDue (s.acc + sampleRate) = k := by rw [ticksDue_of_neg hneg] at hk; omega
    simp only [State.tickWhileNegative, if_pos hneg, tick_acc]
    rw [ih _ (by simpa using hk'), iterate_tick_setAcc, setAcc_setAcc, Function.iterate_succ_apply, setAcc_acc]
    congr 1
    simp only [sampleRate]; push_cast; ring

/-- The number of ticks of a frame that starts in `s` (41_tick_accumulator.md R102). -/
def State.frameTicks (s : State) : Nat := ticksDue (s.acc - s.cfg.chipClock)

/-- A frame's `ACC_STEP` is so many ticks and the new value of `acc`. -/
theorem accStep_eq (s : State) :
    s.accStep = (State.tick^[s.frameTicks] s).setAcc (s.acc - s.cfg.chipClock + 44100 * (s.frameTicks : Int)) := by
  rw [State.accStep, tickWhileNegative_due, State.chargeFrame, iterate_tick_setAcc]; rfl

/-- The bound of the loop is never what ends it. -/
theorem accStep_acc_nonneg (s : State) : 0 ≤ s.accStep.acc := by
  rw [accStep_eq]; exact (ticksDue_spec _).1

/-! ## What ticks and frames leave -/

@[simp] theorem iterate_tick_cfg (s : State) (k : Nat) : (State.tick^[k] s).cfg = s.cfg := by
  induction k generalizing s with
  | zero => rfl
  | succ k ih => rw [Function.iterate_succ_apply, ih, tick_cfg]

@[simp] theorem iterate_tick_regs (s : State) (k : Nat) : (State.tick^[k] s).regs = s.regs := by
  induction k generalizing s with
  | zero => rfl
  | succ k ih => rw [Function.iterate_succ_apply, ih, tick_regs]

@[simp] theorem iterate_tick_queue (s : State) (k : Nat) : (State.tick^[k] s).queue = s.queue := by
  induction k generalizing s with
  | zero => rfl
  | succ k ih => rw [Function.iterate_succ_apply, ih, tick_queue]

@[simp] theorem iterate_tick_lastTs (s : State) (k : Nat) : (State.tick^[k] s).lastTs = s.lastTs := by
  induction k generalizing s with
  | zero => rfl
  | succ k ih => rw [Function.iterate_succ_apply, ih, tick_lastTs]

@[simp] theorem iterate_tick_lastSampled (s : State) (k : Nat) : (State.tick^[k] s).lastSampled = s.lastSampled := by
  induction k generalizing s with
  | zero => rfl
  | succ k ih => rw [Function.iterate_succ_apply, ih, tick_lastSampled]

@[simp] theorem iterate_tick_faulted (s : State) (k : Nat) : (State.tick^[k] s).faulted = s.faulted := by
  induction k generalizing s with
  | zero => rfl
  | succ k ih => rw [Function.iterate_succ_apply, ih, tick_faulted]

@[simp] theorem iterate_tick_commands (s : State) (k : Nat) : (State.tick^[k] s).commands = s.commands := by
  induction k generalizing s with
  | zero => rfl
  | succ k ih => rw [Function.iterate_succ_apply, ih, tick_commands]

@[simp] theorem iterate_tick_out (s : State) (k : Nat) : (State.tick^[k] s).out = s.out := by
  induction k generalizing s with
  | zero => rfl
  | succ k ih => rw [Function.iterate_succ_apply, ih, tick_out]

@[simp] theorem iterate_tick_response (s : State) (k : Nat) : (State.tick^[k] s).response = s.response := by
  induction k generalizing s with
  | zero => rfl
  | succ k ih => rw [Function.iterate_succ_apply, ih, tick_response]

@[simp] theorem iterate_tick_acc (s : State) (k : Nat) : (State.tick^[k] s).acc = s.acc := by
  induction k generalizing s with
  | zero => rfl
  | succ k ih => rw [Function.iterate_succ_apply, ih, tick_acc]

@[simp] theorem accStep_cfg (s : State) : s.accStep.cfg = s.cfg := by simp [accStep_eq]
@[simp] theorem accStep_regs (s : State) : s.accStep.regs = s.regs := by simp [accStep_eq]
@[simp] theorem accStep_queue (s : State) : s.accStep.queue = s.queue := by simp [accStep_eq]
@[simp] theorem accStep_lastTs (s : State) : s.accStep.lastTs = s.lastTs := by simp [accStep_eq]
@[simp] theorem accStep_lastSampled (s : State) : s.accStep.lastSampled = s.lastSampled := by simp [accStep_eq]
@[simp] theorem accStep_faulted (s : State) : s.accStep.faulted = s.faulted := by simp [accStep_eq]
@[simp] theorem accStep_commands (s : State) : s.accStep.commands = s.commands := by simp [accStep_eq]
@[simp] theorem accStep_out (s : State) : s.accStep.out = s.out := by simp [accStep_eq]
@[simp] theorem accStep_response (s : State) : s.accStep.response = s.response := by simp [accStep_eq]

@[simp] theorem frame_cfg (s : State) : s.frame.cfg = s.cfg := by simp [State.frame]
@[simp] theorem frame_regs (s : State) : s.frame.regs = s.regs := by simp [State.frame]
@[simp] theorem frame_queue (s : State) : s.frame.queue = s.queue := by simp [State.frame]
@[simp] theorem frame_lastTs (s : State) : s.frame.lastTs = s.lastTs := by simp [State.frame]
@[simp] theorem frame_lastSampled (s : State) : s.frame.lastSampled = s.lastSampled := by simp [State.frame]
@[simp] theorem frame_faulted (s : State) : s.frame.faulted = s.faulted := by simp [State.frame]
@[simp] theorem frame_commands (s : State) : s.frame.commands = s.commands := by simp [State.frame]
@[simp] theorem frame_response (s : State) : s.frame.response = s.response := by simp [State.frame]

@[simp] theorem frame_out (s : State) :
    s.frame.out = s.out ++ [⟨s.accStep.sample, s.accStep.sample⟩] := by simp [State.frame]

end Sys2Proof.Machine
end

