-- ==== Sys2Proof/Laws/Bits.lean ====
section
/-! SUPPORT. The bits of a shift, of a count and of a one-bit value. -/

namespace Sys2Proof.Machine

/-- A one-bit value is determined by its low bit. -/
theorem ofNat_one_eq (v : Nat) : BitVec.ofNat 1 v = BitVec.ofBool (v.testBit 0) := by
  rcases Nat.mod_two_eq_zero_or_one v with h | h <;>
    (apply BitVec.eq_of_toNat_eq; simp [Nat.testBit_zero, h])

/-- Below the top, a shift moves every bit down by one (43_noise.md R125). -/
theorem shiftIn_testBit_low {w j : Nat} (v : Nat) (feed : BitVec 1) (h : j + 1 < w) :
    (shiftIn w v feed).testBit j = v.testBit (j + 1) := by
  have hj : ¬ w - 1 ≤ j := by omega
  simp [shiftIn, Nat.testBit_or, Nat.testBit_shiftRight, Nat.testBit_shiftLeft, hj, Nat.add_comm]

/-- At the top stands the feed bit. -/
theorem shiftIn_testBit_top {w v : Nat} (feed : BitVec 1) (hw : 1 ≤ w) (hv : v < 2 ^ w) :
    (shiftIn w v feed).testBit (w - 1) = feed.toNat.testBit 0 := by
  have h : v.testBit (1 + (w - 1)) = false := Nat.testBit_lt_two_pow (by rwa [show 1 + (w - 1) = w by omega])
  simp [shiftIn, Nat.testBit_or, Nat.testBit_shiftRight, Nat.testBit_shiftLeft, h]

/-- A shift keeps the width of the register. -/
theorem shiftIn_lt {w v : Nat} (feed : BitVec 1) (hw : 1 ≤ w) (hv : v < 2 ^ w) : shiftIn w v feed < 2 ^ w := by
  have hf : feed.toNat < 2 := feed.isLt
  have h₂ : 2 ^ w = 2 * 2 ^ (w - 1) := by rw [← pow_succ']; congr 1; omega
  refine Nat.or_lt_two_pow (lt_of_le_of_lt (Nat.shiftRight_le v 1) hv) ?_
  rw [Nat.shiftLeft_eq, h₂]
  exact Nat.mul_lt_mul_of_pos_right hf (Nat.two_pow_pos _)

@[simp] theorem popcount_zero (w : Nat) : popcount w 0 = 0 := by
  induction w with
  | zero => rfl
  | succ w ih => simp [popcount, ih]

@[simp] theorem fold_zero (w : Nat) : fold w 0 = 0#1 := by simp [fold]

/-- `FOLD` takes in one more bit by XOR. -/
theorem fold_succ (w v : Nat) : fold (w + 1) v = fold w v ^^^ BitVec.ofBool (v.testBit w) := by
  cases h : v.testBit w <;> simp only [fold, popcount, h] <;>
    rcases Nat.mod_two_eq_zero_or_one (popcount w v) with e | e <;> simp [e, Nat.add_mod]

/-- The zero register feeds zero, white or periodic (43_noise.md R128). -/
theorem feed_of_zero {s : State} (h : s.shiftRegister = 0) : s.feed = 0#1 := by
  simp [State.feed, h]

end Sys2Proof.Machine
end

