-- ==== Sys2Proof/Laws/Queue.lean ====
section
/-! SUPPORT. What a drain applies and what it leaves queued (40_write_queue_sync.md R87, R90). -/

namespace Sys2Proof.Machine

@[simp] theorem applyAll_nil (dec : Decoder) (r : Regs) : applyAll dec [] r = r := rfl

@[simp] theorem applyAll_cons (dec : Decoder) (p : Pending) (q : List Pending) (r : Regs) :
    applyAll dec (p :: q) r = applyAll dec q (dec.write p.payload r) := rfl

theorem applyAll_append (dec : Decoder) (q q' : List Pending) (r : Regs) :
    applyAll dec (q ++ q') r = applyAll dec q' (applyAll dec q r) := List.foldl_append

/-- Whatever a drain applied, the registers after the rest of the queue are those after the whole queue: no write is
lost and none is applied twice (20_memory.md R47). -/
theorem drainDue_then_rest (dec : Decoder) (limit : Nat) (q : List Pending) (r : Regs) :
    applyAll dec (drainDue dec limit q r).2 (drainDue dec limit q r).1 = applyAll dec q r := by
  induction q generalizing r with
  | nil => rfl
  | cons p q ih =>
    by_cases h : p.due limit = true
    · simp [drainDue, h, ih]
    · simp [drainDue, h]

/-- What a drain leaves is the young end of the queue. -/
theorem drainDue_suffix (dec : Decoder) (limit : Nat) (q : List Pending) (r : Regs) :
    (drainDue dec limit q r).2 <:+ q := by
  induction q generalizing r with
  | nil => exact List.suffix_refl _
  | cons p q ih =>
    by_cases h : p.due limit = true
    · simpa [drainDue, h] using (ih _).trans (List.suffix_cons p q)
    · simp [drainDue, h]

/-! ## The operations on the state -/

@[simp] theorem drain_cfg (dec : Decoder) (a off : Nat) (s : State) : (s.drain dec a off).cfg = s.cfg := rfl
@[simp] theorem drain_countdown (dec : Decoder) (a off : Nat) (s : State) : (s.drain dec a off).countdown = s.countdown := rfl
@[simp] theorem drain_level (dec : Decoder) (a off : Nat) (s : State) : (s.drain dec a off).level = s.level := rfl
@[simp] theorem drain_shiftRegister (dec : Decoder) (a off : Nat) (s : State) : (s.drain dec a off).shiftRegister = s.shiftRegister := rfl
@[simp] theorem drain_tickParity (dec : Decoder) (a off : Nat) (s : State) : (s.drain dec a off).tickParity = s.tickParity := rfl
@[simp] theorem drain_lastTs (dec : Decoder) (a off : Nat) (s : State) : (s.drain dec a off).lastTs = s.lastTs := rfl
@[simp] theorem drain_lastSampled (dec : Decoder) (a off : Nat) (s : State) : (s.drain dec a off).lastSampled = s.lastSampled := rfl
@[simp] theorem drain_acc (dec : Decoder) (a off : Nat) (s : State) : (s.drain dec a off).acc = s.acc := rfl
@[simp] theorem drain_faulted (dec : Decoder) (a off : Nat) (s : State) : (s.drain dec a off).faulted = s.faulted := rfl
@[simp] theorem drain_commands (dec : Decoder) (a off : Nat) (s : State) : (s.drain dec a off).commands = s.commands := rfl
@[simp] theorem drain_out (dec : Decoder) (a off : Nat) (s : State) : (s.drain dec a off).out = s.out := rfl
@[simp] theorem drain_response (dec : Decoder) (a off : Nat) (s : State) : (s.drain dec a off).response = s.response := rfl

@[simp] theorem drain_regs (dec : Decoder) (a off : Nat) (s : State) :
    (s.drain dec a off).regs = (drainDue dec (a + off) s.queue s.regs).1 := rfl

@[simp] theorem drain_queue (dec : Decoder) (a off : Nat) (s : State) :
    (s.drain dec a off).queue = (drainDue dec (a + off) s.queue s.regs).2 := rfl

/-- A drain of an empty queue does nothing. -/
theorem drain_of_empty (dec : Decoder) (a off : Nat) {s : State} (h : s.queue = []) : s.drain dec a off = s := by
  cases s; simp_all [State.drain, drainDue, State.setRegs, State.setQueue]

@[simp] theorem drainAll_cfg (dec : Decoder) (s : State) : (s.drainAll dec).cfg = s.cfg := rfl
@[simp] theorem drainAll_countdown (dec : Decoder) (s : State) : (s.drainAll dec).countdown = s.countdown := rfl
@[simp] theorem drainAll_level (dec : Decoder) (s : State) : (s.drainAll dec).level = s.level := rfl
@[simp] theorem drainAll_shiftRegister (dec : Decoder) (s : State) : (s.drainAll dec).shiftRegister = s.shiftRegister := rfl
@[simp] theorem drainAll_tickParity (dec : Decoder) (s : State) : (s.drainAll dec).tickParity = s.tickParity := rfl
@[simp] theorem drainAll_lastTs (dec : Decoder) (s : State) : (s.drainAll dec).lastTs = s.lastTs := rfl
@[simp] theorem drainAll_lastSampled (dec : Decoder) (s : State) : (s.drainAll dec).lastSampled = s.lastSampled := rfl
@[simp] theorem drainAll_acc (dec : Decoder) (s : State) : (s.drainAll dec).acc = s.acc := rfl
@[simp] theorem drainAll_faulted (dec : Decoder) (s : State) : (s.drainAll dec).faulted = s.faulted := rfl
@[simp] theorem drainAll_commands (dec : Decoder) (s : State) : (s.drainAll dec).commands = s.commands := rfl
@[simp] theorem drainAll_out (dec : Decoder) (s : State) : (s.drainAll dec).out = s.out := rfl
@[simp] theorem drainAll_response (dec : Decoder) (s : State) : (s.drainAll dec).response = s.response := rfl

@[simp] theorem drainAll_regs (dec : Decoder) (s : State) :
    (s.drainAll dec).regs = applyAll dec s.queue s.regs := rfl

@[simp] theorem drainAll_queue (dec : Decoder) (s : State) : (s.drainAll dec).queue = [] := rfl

theorem drainAll_of_empty (dec : Decoder) {s : State} (h : s.queue = []) : s.drainAll dec = s := by
  cases s; simp_all [State.drainAll, State.setRegs, State.setQueue]

end Sys2Proof.Machine
end

