-- ==== Sys2Proof/Laws/Gen.lean ====
section
/-! SUPPORT. What the frame loop and `GEN` do and leave (40_write_queue_sync.md R83). -/

namespace Sys2Proof.Machine

/-! ## One pass -/

@[simp] theorem framePass_cfg (dec : Decoder) (w : Window) (i : Nat) (s : State) :
    (s.framePass dec w i).cfg = s.cfg := by simp [State.framePass]

@[simp] theorem framePass_lastTs (dec : Decoder) (w : Window) (i : Nat) (s : State) :
    (s.framePass dec w i).lastTs = s.lastTs := by simp [State.framePass]

@[simp] theorem framePass_lastSampled (dec : Decoder) (w : Window) (i : Nat) (s : State) :
    (s.framePass dec w i).lastSampled = s.lastSampled := by simp [State.framePass]

@[simp] theorem framePass_faulted (dec : Decoder) (w : Window) (i : Nat) (s : State) :
    (s.framePass dec w i).faulted = s.faulted := by simp [State.framePass]

@[simp] theorem framePass_commands (dec : Decoder) (w : Window) (i : Nat) (s : State) :
    (s.framePass dec w i).commands = s.commands := by simp [State.framePass]

@[simp] theorem framePass_response (dec : Decoder) (w : Window) (i : Nat) (s : State) :
    (s.framePass dec w i).response = s.response := by simp [State.framePass]

/-- The state a frame is synthesized in: after its drain. -/
def State.beforeFrame (dec : Decoder) (w : Window) (i : Nat) (s : State) : State :=
  s.drain dec w.startCycle (offset i w.elapsed w.frames)

@[simp] theorem framePass_out (dec : Decoder) (w : Window) (i : Nat) (s : State) :
    (s.framePass dec w i).out =
      s.out ++ [⟨(s.beforeFrame dec w i).accStep.sample, (s.beforeFrame dec w i).accStep.sample⟩] := by
  simp [State.framePass, State.beforeFrame]

theorem framePass_regs (dec : Decoder) (w : Window) (i : Nat) (s : State) :
    (s.framePass dec w i).regs = (s.beforeFrame dec w i).regs := by
  simp [State.framePass, State.beforeFrame]

theorem framePass_queue (dec : Decoder) (w : Window) (i : Nat) (s : State) :
    (s.framePass dec w i).queue = (s.beforeFrame dec w i).queue := by
  simp [State.framePass, State.beforeFrame]

/-- A pass loses no write and applies none twice. -/
theorem framePass_applyAll (dec : Decoder) (w : Window) (i : Nat) (s : State) :
    applyAll dec (s.framePass dec w i).queue (s.framePass dec w i).regs = applyAll dec s.queue s.regs := by
  rw [framePass_queue, framePass_regs]; exact drainDue_then_rest ..

/-- On an empty queue a pass is a frame. -/
theorem framePass_of_empty (dec : Decoder) (w : Window) (i : Nat) {s : State} (h : s.queue = []) :
    s.framePass dec w i = s.frame := by rw [State.framePass, drain_of_empty dec _ _ h]

/-! ## The loop -/

/-- The loop's last pass can be taken apart at the end. -/
theorem frameLoop_succ_last (dec : Decoder) (w : Window) (i k : Nat) (s : State) :
    s.frameLoop dec w i (k + 1) = (s.frameLoop dec w i k).framePass dec w (i + k) := by
  induction k generalizing i s with
  | zero => rfl
  | succ k ih =>
    rw [State.frameLoop, ih, State.frameLoop]; congr 1; omega

/-- Two stretches of the loop in a row are one. -/
theorem frameLoop_add (dec : Decoder) (w : Window) (i k l : Nat) (s : State) :
    s.frameLoop dec w i (k + l) = (s.frameLoop dec w i k).frameLoop dec w (i + k) l := by
  induction l with
  | zero => rfl
  | succ l ih => rw [← Nat.add_assoc, frameLoop_succ_last, ih, frameLoop_succ_last, Nat.add_assoc]

/-- An invariant of the passes is an invariant of the loop. -/
theorem frameLoop_induct (dec : Decoder) (w : Window) (P : State → Prop)
    (pass : ∀ i s, P s → P (s.framePass dec w i)) (i k : Nat) {s : State} (h : P s) :
    P (s.frameLoop dec w i k) := by
  induction k generalizing i s with
  | zero => exact h
  | succ k ih => exact ih (i + 1) (pass i s h)

@[simp] theorem frameLoop_cfg (dec : Decoder) (w : Window) (i k : Nat) (s : State) :
    (s.frameLoop dec w i k).cfg = s.cfg := by
  induction k generalizing i s with
  | zero => rfl
  | succ k ih => rw [State.frameLoop, ih, framePass_cfg]

@[simp] theorem frameLoop_lastTs (dec : Decoder) (w : Window) (i k : Nat) (s : State) :
    (s.frameLoop dec w i k).lastTs = s.lastTs := by
  induction k generalizing i s with
  | zero => rfl
  | succ k ih => rw [State.frameLoop, ih, framePass_lastTs]

@[simp] theorem frameLoop_lastSampled (dec : Decoder) (w : Window) (i k : Nat) (s : State) :
    (s.frameLoop dec w i k).lastSampled = s.lastSampled := by
  induction k generalizing i s with
  | zero => rfl
  | succ k ih => rw [State.frameLoop, ih, framePass_lastSampled]

@[simp] theorem frameLoop_faulted (dec : Decoder) (w : Window) (i k : Nat) (s : State) :
    (s.frameLoop dec w i k).faulted = s.faulted := by
  induction k generalizing i s with
  | zero => rfl
  | succ k ih => rw [State.frameLoop, ih, framePass_faulted]

@[simp] theorem frameLoop_commands (dec : Decoder) (w : Window) (i k : Nat) (s : State) :
    (s.frameLoop dec w i k).commands = s.commands := by
  induction k generalizing i s with
  | zero => rfl
  | succ k ih => rw [State.frameLoop, ih, framePass_commands]

@[simp] theorem frameLoop_response (dec : Decoder) (w : Window) (i k : Nat) (s : State) :
    (s.frameLoop dec w i k).response = s.response := by
  induction k generalizing i s with
  | zero => rfl
  | succ k ih => rw [State.frameLoop, ih, framePass_response]

theorem frameLoop_applyAll (dec : Decoder) (w : Window) (i k : Nat) (s : State) :
    applyAll dec (s.frameLoop dec w i k).queue (s.frameLoop dec w i k).regs = applyAll dec s.queue s.regs :=
  frameLoop_induct dec w (fun u => applyAll dec u.queue u.regs = applyAll dec s.queue s.regs)
    (fun i u h => (framePass_applyAll dec w i u).trans h) i k rfl

/-- `k` passes emit `k` frames. -/
theorem frameLoop_out_length (dec : Decoder) (w : Window) (i k : Nat) (s : State) :
    (s.frameLoop dec w i k).out.length = s.out.length + k := by
  induction k generalizing i s with
  | zero => rfl
  | succ k ih => rw [State.frameLoop, ih, framePass_out]; simp; omega

/-- The frames of earlier passes stay as they were emitted. -/
theorem frameLoop_out_prefix (dec : Decoder) (w : Window) (i k : Nat) (s : State) :
    s.out <+: (s.frameLoop dec w i k).out := by
  induction k generalizing i s with
  | zero => exact List.prefix_refl _
  | succ k ih => exact (by simp : s.out <+: (s.framePass dec w i).out).trans (ih _ _)

/-- On an empty queue the loop is so many frames, whatever the window. -/
theorem frameLoop_of_empty (dec : Decoder) (w : Window) (i k : Nat) {s : State} (h : s.queue = []) :
    s.frameLoop dec w i k = State.frame^[k] s := by
  induction k generalizing i s with
  | zero => rfl
  | succ k ih =>
    rw [State.frameLoop, framePass_of_empty dec w i h, ih _ (by simpa using h), Function.iterate_succ_apply]

/-! ## The body of `GEN` -/

@[simp] theorem generate_cfg (dec : Decoder) (len now : Nat) (s : State) :
    (s.generate dec len now).cfg = s.cfg := by simp [State.generate]

@[simp] theorem generate_lastTs (dec : Decoder) (len now : Nat) (s : State) :
    (s.generate dec len now).lastTs = s.lastTs := by simp [State.generate]

@[simp] theorem generate_faulted (dec : Decoder) (len now : Nat) (s : State) :
    (s.generate dec len now).faulted = s.faulted := by simp [State.generate]

@[simp] theorem generate_commands (dec : Decoder) (len now : Nat) (s : State) :
    (s.generate dec len now).commands = s.commands := by simp [State.generate]

@[simp] theorem generate_lastSampled (dec : Decoder) (len now : Nat) (s : State) :
    (s.generate dec len now).lastSampled = now := by simp [State.generate]

@[simp] theorem generate_queue (dec : Decoder) (len now : Nat) (s : State) :
    (s.generate dec len now).queue = [] := by simp [State.generate]

@[simp] theorem generate_response (dec : Decoder) (len now : Nat) (s : State) :
    (s.generate dec len now).response = .completed := by simp [State.generate]

@[simp] theorem generate_regs (dec : Decoder) (len now : Nat) (s : State) :
    (s.generate dec len now).regs = applyAll dec s.queue s.regs := by
  simpa [State.generate] using frameLoop_applyAll dec (s.window len now) 0 (s.window len now).frames s.begin

theorem generate_out (dec : Decoder) (len now : Nat) (s : State) :
    (s.generate dec len now).out = (s.begin.frameLoop dec (s.window len now) 0 (len / 2)).out := rfl

@[simp] theorem generate_out_length (dec : Decoder) (len now : Nat) (s : State) :
    (s.generate dec len now).out.length = len / 2 := by
  rw [generate_out, frameLoop_out_length]; simp

/-- `GEN` when it passes its checks. -/
theorem gen_of_checked (dec : Decoder) {len now : Nat} {s : State} (hf : s.faulted = none) (hl : len % 2 = 0)
    (hn : s.lastSampled ≤ now) : s.gen dec 1#1 len now = s.generate dec len now := by
  simp [State.gen, hf, hl, Nat.not_lt.mpr hn]

/-- Everything a `GEN` can answer (40_write_queue_sync.md R83, 60_exceptions.md R184, R185). -/
theorem gen_cases (dec : Decoder) (present : BitVec 1) (len now : Nat) (s : State) :
    (∃ code, s.faulted = some code ∧ s.gen dec present len now = s.turnAway code) ∨
    (s.faulted = none ∧ (present = 0#1 ∨ len % 2 = 1) ∧ s.gen dec present len now = s.raise .buffer) ∨
    (s.faulted = none ∧ len % 2 = 0 ∧ now < s.lastSampled ∧ s.gen dec present len now = s.raise .window) ∨
    (s.faulted = none ∧ len % 2 = 0 ∧ s.lastSampled ≤ now ∧
      s.gen dec present len now = s.generate dec len now) := by
  cases hf : s.faulted with
  | some code => exact .inl ⟨code, rfl, by simp [State.gen, hf]⟩
  | none =>
    by_cases hb : present = 0#1 ∨ len % 2 = 1
    · exact .inr (.inl ⟨rfl, hb, by simp [State.gen, hf, hb]⟩)
    · have hl : len % 2 = 0 := by omega
      by_cases hn : now < s.lastSampled
      · exact .inr (.inr (.inl ⟨rfl, hl, hn, by simp [State.gen, hf, hb, hn]⟩))
      · exact .inr (.inr (.inr ⟨rfl, hl, by omega, by simp [State.gen, hf, hb, hn]⟩))

@[simp] theorem slots_length (fs : List Frame) : (slots fs).length = 2 * fs.length := by
  induction fs with
  | nil => rfl
  | cons f fs ih => simp [slots, ih]; omega

end Sys2Proof.Machine
end

