-- ==== Sys2Proof/Laws/Mixer.lean ====
section
/-! SUPPORT. The range of the mix and of the sample (44_mixer.md R141, R142). -/

namespace Sys2Proof.Machine

/-- A channel contributes 0 to 15. -/
theorem contribution_le (s : State) (c : Fin 4) : s.contribution c ≤ 15 := by
  have h : s.level[c].toNat ≤ 1 := Nat.le_of_lt_succ s.level[c].isLt
  calc s.level[c].toNat * s.regs.weight c ≤ 1 * 15 := Nat.mul_le_mul h (Nat.sub_le _ _)
    _ = 15 := rfl

theorem mix_le (s : State) : s.mix ≤ 60 := by
  have h₀ := contribution_le s 0; have h₁ := contribution_le s 1
  have h₂ := contribution_le s 2; have h₃ := contribution_le s 3
  unfold State.mix; omega

/-- The scaled sum fits the format, so `s16` is defined. -/
theorem scaled_mix_le (s : State) : s.mix * s.cfg.mixScale ≤ 32767 :=
  (Nat.mul_le_mul_right _ (mix_le s)).trans s.cfg.valid.2.2.2.2.2

/-- The sample as an integer. -/
theorem sample_toInt (s : State) : s.sample.toInt = (s.mix * s.cfg.mixScale : Nat) := by
  have h := scaled_mix_le s
  have ht : s.sample.toNat = s.mix * s.cfg.mixScale := by
    simp only [State.sample, BitVec.toNat_ofNat]; exact Nat.mod_eq_of_lt (by omega)
  rw [BitVec.toInt_eq_toNat_of_lt (by omega), ht]

end Sys2Proof.Machine
end

