-- ==== Sys2Proof/Laws/PerInstr.lean ====
section
/-! SUPPORT. Facts about every instruction as syntax, one lemma per constructor. -/

namespace Sys2Proof.Laws.RoundTrip

/-- The encoder loses no operand of a well-formed instruction. -/
def Statement (i : Instr) : Prop := i.wellFormed = true → decode (encode i) = i

theorem reset (op : BitVec 1) : Statement (.reset op) := fun _ => by
  simp [encode, decode, decodeCommand]

theorem enq (ts : Nat) (payload : Byte) : Statement (.enq ts payload) := fun h => by
  have h' : ts < 2 ^ 64 := by simpa [Instr.wellFormed, cycleWidth, lengthWidth] using h
  simp [encode, decode, decodeCommand, Transaction.idle, Nat.mod_eq_of_lt h']

theorem gen (present : BitVec 1) (len now : Nat) : Statement (.gen present len now) := fun h => by
  have h' : len < 2 ^ 32 ∧ now < 2 ^ 64 := by simpa [Instr.wellFormed, cycleWidth, lengthWidth] using h
  simp [encode, decode, decodeCommand, Transaction.idle, Nat.mod_eq_of_lt h'.1, Nat.mod_eq_of_lt h'.2]

theorem ltone0 (d4 : BitVec 4) : Statement (.ltone0 d4) := fun _ => by revert d4; decide
theorem latt0 (d4 : BitVec 4) : Statement (.latt0 d4) := fun _ => by revert d4; decide
theorem ltone1 (d4 : BitVec 4) : Statement (.ltone1 d4) := fun _ => by revert d4; decide
theorem latt1 (d4 : BitVec 4) : Statement (.latt1 d4) := fun _ => by revert d4; decide
theorem ltone2 (d4 : BitVec 4) : Statement (.ltone2 d4) := fun _ => by revert d4; decide
theorem latt2 (d4 : BitVec 4) : Statement (.latt2 d4) := fun _ => by revert d4; decide
theorem lnoise (x : BitVec 1) (d3 : BitVec 3) : Statement (.lnoise x d3) := fun _ => by revert x d3; decide
theorem latt3 (d4 : BitVec 4) : Statement (.latt3 d4) := fun _ => by revert d4; decide
theorem data (x : BitVec 1) (d6 : BitVec 6) : Statement (.data x d6) := fun _ => by revert x d6; decide

end Sys2Proof.Laws.RoundTrip

namespace Sys2Proof.Laws.WireKind

/-- The payload forms are the instructions that travel as one byte; the host commands travel as a transaction
(30_encoding.md R60). -/
def Statement (i : Instr) : Prop := i.isPayload = true ↔ ∃ b, encode i = .payload b

theorem reset (op : BitVec 1) : Statement (.reset op) := by simp [Statement, Instr.isPayload, encode]
theorem enq (ts : Nat) (payload : Byte) : Statement (.enq ts payload) := by
  simp [Statement, Instr.isPayload, encode]
theorem gen (present : BitVec 1) (len now : Nat) : Statement (.gen present len now) := by
  simp [Statement, Instr.isPayload, encode]
theorem ltone0 (d4 : BitVec 4) : Statement (.ltone0 d4) := by simp [Statement, Instr.isPayload, encode]
theorem latt0 (d4 : BitVec 4) : Statement (.latt0 d4) := by simp [Statement, Instr.isPayload, encode]
theorem ltone1 (d4 : BitVec 4) : Statement (.ltone1 d4) := by simp [Statement, Instr.isPayload, encode]
theorem latt1 (d4 : BitVec 4) : Statement (.latt1 d4) := by simp [Statement, Instr.isPayload, encode]
theorem ltone2 (d4 : BitVec 4) : Statement (.ltone2 d4) := by simp [Statement, Instr.isPayload, encode]
theorem latt2 (d4 : BitVec 4) : Statement (.latt2 d4) := by simp [Statement, Instr.isPayload, encode]
theorem lnoise (x : BitVec 1) (d3 : BitVec 3) : Statement (.lnoise x d3) := by
  simp [Statement, Instr.isPayload, encode]
theorem latt3 (d4 : BitVec 4) : Statement (.latt3 d4) := by simp [Statement, Instr.isPayload, encode]
theorem data (x : BitVec 1) (d6 : BitVec 6) : Statement (.data x d6) := by
  simp [Statement, Instr.isPayload, encode]

end Sys2Proof.Laws.WireKind
end

