-- ==== Sys2Proof/Laws/RegisterWrite.lean ====
section
/-! SUPPORT. What a decode writes, what a register write leaves of its own state, and which decode a device has. -/

namespace Sys2Proof.Machine

@[simp] theorem defaultDecode_write : defaultDecode.write = defaultWrite := rfl
@[simp] theorem openDecoder_write (n : Nat) : (openDecoder n).write = confine (Config.openDecode n) := rfl
@[simp] theorem apply_regs (dec : Decoder) (b : Byte) (s : State) : (s.apply dec b).regs = dec.write b s.regs := rfl
@[simp] theorem view_own (r : Regs) (d : BitVec 10) (a : BitVec 4) (v : BitVec 3) : (r.view d a v).own = r.own := rfl

/-- Once the latch is set, the write of a LATCH byte leaves the decode's own state. -/
@[simp] theorem writeLatched_own (r : Regs) (d4 : BitVec 4) (n : RegName) : (r.writeLatched d4 n).own = r.own := by
  cases n <;> rfl

/-- The write of a DATA byte leaves the decode's own state (45_register_write.md R156). -/
@[simp] theorem writeData_own (r : Regs) (d6 : BitVec 6) (n : RegName) : (r.writeData d6 n).own = r.own := by
  cases n <;> rfl

/-- The decode depends on the configuration alone. -/
theorem decoder_eq_of_cfg {s t : State} (h : s.cfg = t.cfg) : s.decoder = t.decoder := by
  unfold State.decoder; rw [h]

/-- A device configured with the default decode has it. -/
theorem decoder_of_standard {s : State} (h : s.cfg.decode = .standard) : s.decoder = defaultDecode := by
  unfold State.decoder; rw [h]

/-- A device configured with another decode has the open one of that name. -/
theorem decoder_of_other {s : State} {n : Nat} (h : s.cfg.decode = .other n) : s.decoder = openDecoder n := by
  unfold State.decoder; rw [h]

end Sys2Proof.Machine
end

