-- ==== Sys2Proof/Laws/Step.lean ====
section
/-! SUPPORT. Once and for all, what `ENQ`, a command and a step can do. -/

namespace Sys2Proof.Machine

/-- Everything an `ENQ` can answer (40_write_queue_sync.md R80, 60_exceptions.md R184, R185). -/
theorem execEnq_cases (ts : Nat) (payload : Byte) (s : State) :
    (∃ code, s.faulted = some code ∧ execEnq ts payload s = .next (s.turnAway code)) ∨
    (s.faulted = none ∧ (∃ last, s.lastTs = some last ∧ ts < last) ∧ execEnq ts payload s = .next (s.raise .order)) ∨
    (s.faulted = none ∧ s.queueFull = true ∧ execEnq ts payload s = .refused .queueOverflow) ∨
    (s.faulted = none ∧ (∀ last, s.lastTs = some last → last ≤ ts) ∧ s.queueFull = false ∧
      execEnq ts payload s = .next (s.begin.push ts payload)) := by
  cases hf : s.faulted with
  | some code => exact .inl ⟨code, rfl, by simp [execEnq, hf]⟩
  | none =>
    refine .inr ?_
    cases ho : s.outOfOrder ts with
    | true =>
      refine .inl ⟨rfl, ?_, by simp [execEnq, hf, ho]⟩
      cases hl : s.lastTs with
      | none => simp [State.outOfOrder, hl] at ho
      | some last => exact ⟨last, rfl, by simpa [State.outOfOrder, hl] using ho⟩
    | false =>
      cases hq : s.queueFull with
      | true => exact .inr (.inl ⟨rfl, rfl, by simp [execEnq, hf, ho, hq]⟩)
      | false =>
        refine .inr (.inr ⟨rfl, fun last hl => ?_, rfl, by simp [execEnq, hf, ho, hq]⟩)
        simpa [State.outOfOrder, hl] using ho

/-- A step is idle, or runs the instruction of the next command. -/
theorem step_cases {s t : State} (h : step s = .next t) :
    (s.commands = [] ∧ t = s) ∨
    (∃ c rest, s.commands = c :: rest ∧ exec (decodeCommand c) { s with commands := rest } = .next t) := by
  cases hc : s.commands with
  | nil => exact .inl ⟨rfl, by simpa [step, State.nextCommand, hc, eq_comm] using h⟩
  | cons c rest => exact .inr ⟨c, rest, rfl, by simpa [step, State.nextCommand, hc] using h⟩

/-- What a command decodes to: one of the three host commands (30_encoding.md R61). -/
theorem decodeCommand_cases (c : Transaction) :
    (c.resetLine = 1#1 ∧ decodeCommand c = .reset c.op) ∨
    (c.resetLine = 0#1 ∧ decodeCommand c = .enq c.ts.toNat c.payload) ∨
    (c.resetLine = 0#1 ∧ decodeCommand c = .gen c.present c.len.toNat c.now.toNat) := by
  have hb : c.resetLine = 1#1 ∨ c.resetLine = 0#1 := by
    generalize c.resetLine = b; revert b; decide
  rcases hb with h | h
  · exact .inl ⟨h, by simp [decodeCommand, h]⟩
  · by_cases g : c.op = 0#1
    · exact .inr (.inl ⟨h, by simp [decodeCommand, h, g]⟩)
    · exact .inr (.inr ⟨h, by simp [decodeCommand, h, g]⟩)

/-- Everything a step can do, in one list: idle, `RESET`, or, on the state `u` without the command, a command turned
away, a fault raised, a write queued, or frames generated. -/
theorem step_next_cases {s t : State} (h : step s = .next t) :
    (s.commands = [] ∧ t = s) ∨
    ∃ c rest u, s.commands = c :: rest ∧ u = { s with commands := rest } ∧
      ((c.resetLine = 1#1 ∧ t = u.construct) ∨
       (c.resetLine = 0#1 ∧
        ((∃ code, u.faulted = some code ∧ t = u.turnAway code) ∨
         (u.faulted = none ∧ ∃ code, t = u.raise code) ∨
         (u.faulted = none ∧ (∀ last, u.lastTs = some last → last ≤ c.ts.toNat) ∧ u.queueFull = false ∧
           t = u.begin.push c.ts.toNat c.payload) ∨
         (u.faulted = none ∧ u.lastSampled ≤ c.now.toNat ∧ c.len.toNat % 2 = 0 ∧
           t = u.generate u.decoder c.len.toNat c.now.toNat)))) := by
  rcases step_cases h with h | ⟨c, rest, hc, he⟩
  · exact .inl h
  refine .inr ⟨c, rest, _, hc, rfl, ?_⟩
  rcases decodeCommand_cases c with ⟨hr, hd⟩ | ⟨hr, hd⟩ | ⟨hr, hd⟩ <;> rw [hd] at he <;>
    simp only [exec, execReset, execGen] at he
  · exact .inl ⟨hr, by simpa [eq_comm] using he⟩
  · refine .inr ⟨hr, ?_⟩
    rcases execEnq_cases c.ts.toNat c.payload { s with commands := rest } with
      ⟨code, hf, e⟩ | ⟨hf, -, e⟩ | ⟨-, -, e⟩ | ⟨hf, ho, hq, e⟩ <;> rw [e] at he
    · exact .inl ⟨code, hf, by simpa [eq_comm] using he⟩
    · exact .inr (.inl ⟨hf, .order, by simpa [eq_comm] using he⟩)
    · cases he
    · exact .inr (.inr (.inl ⟨hf, ho, hq, by simpa [eq_comm] using he⟩))
  · refine .inr ⟨hr, ?_⟩
    rcases gen_cases (State.decoder { s with commands := rest }) c.present c.len.toNat c.now.toNat { s with commands := rest } with
      ⟨code, hf, e⟩ | ⟨hf, -, e⟩ | ⟨hf, -, -, e⟩ | ⟨hf, hl, hn, e⟩ <;> rw [e] at he
    · exact .inl ⟨code, hf, by simpa [eq_comm] using he⟩
    · exact .inr (.inl ⟨hf, .buffer, by simpa [eq_comm] using he⟩)
    · exact .inr (.inl ⟨hf, .window, by simpa [eq_comm] using he⟩)
    · exact .inr (.inr (.inr ⟨hf, hn, hl, by simpa [eq_comm] using he⟩))

end Sys2Proof.Machine
end

