-- ==== Sys2Proof/Tests/Slice0.lean ====
section
/-! SUPPORT. Tests: words and results taken from the spec's tables and vectors (30_encoding.md, 95_test_vectors.md),
the refusals of the well-formedness checks, and for every obligation with hypotheses a state and operands that meet
them. -/

namespace Sys2Proof.Tests

open Sys2Proof.Machine

set_option maxRecDepth 20000

/-! ## Well-formedness -/

theorem test_wf_refuses_enq_timestamp_too_wide : (Instr.enq (2 ^ 64) 0).wellFormed = false := by decide
theorem test_wf_refuses_gen_length_too_wide : (Instr.gen 1 (2 ^ 32) 0).wellFormed = false := by decide
theorem test_wf_refuses_gen_counter_too_wide : (Instr.gen 1 0 (2 ^ 64)).wellFormed = false := by decide

/-! ## Configurations: the defaults of 95_test_vectors.md, and those 00_scope.md R5 excludes -/

/-- The default configuration of 95_test_vectors.md with `CHIP_CLOCK = 44100` and `SR_INIT = 0`. -/
def plainParams : Params := ⟨44100, 16, 9, 0, #v[16, 32, 64, 0], 512, 1, none, .standard⟩

def plainConfig : Config := ⟨plainParams, by decide⟩

/-- The same with `CHIP_CLOCK = 22050` (vector T3). -/
def slowConfig : Config := ⟨{ plainParams with chipClock := 22050 }, by decide⟩

/-- The same with a queue of one entry. -/
def shallowConfig : Config := ⟨{ plainParams with queueDepth := some 1 }, by decide⟩

theorem test_config_refuses_clock_zero : Config.ofParams { plainParams with chipClock := 0 } = none := by decide
theorem test_config_refuses_width_zero :
    Config.ofParams { plainParams with srWidth := 0, tapMask := 0, srInit := 0 } = none := by decide
theorem test_config_refuses_wide_taps : Config.ofParams { plainParams with tapMask := 2 ^ 16 } = none := by decide
theorem test_config_refuses_wide_seed : Config.ofParams { plainParams with srInit := 2 ^ 16 } = none := by decide
theorem test_config_refuses_scale_zero : Config.ofParams { plainParams with mixScale := 0 } = none := by decide
theorem test_config_refuses_loud_scale : Config.ofParams { plainParams with mixScale := 547 } = none := by decide
theorem test_config_takes_the_largest_scale :
    (Config.ofParams { plainParams with mixScale := 546 }).isSome = true := by decide

/-! ## Decoding: one word per row, written from 30_encoding.md R61, R68 and the examples of 45_register_write.md -/

theorem test_decode_ltone0 : decode (.payload 0x8A) = .ltone0 0xA := by decide
theorem test_decode_ltone1 : decode (.payload 0xA5) = .ltone1 5 := by decide
theorem test_decode_ltone2 : decode (.payload 0xC1) = .ltone2 1 := by decide
theorem test_decode_lnoise : decode (.payload 0xE8) = .lnoise 1 0 := by decide
theorem test_decode_latt0 : decode (.payload 0x9F) = .latt0 15 := by decide
theorem test_decode_latt1 : decode (.payload 0xB4) = .latt1 4 := by decide
theorem test_decode_latt2 : decode (.payload 0xDF) = .latt2 15 := by decide
theorem test_decode_latt3 : decode (.payload 0xF0) = .latt3 0 := by decide
theorem test_decode_data : decode (.payload 0x7F) = .data 1 63 := by decide
theorem test_decode_reset_overrides_gen :
    decode (.command ⟨1, 1, 5, 0x9F, 1, 8, 10⟩) = .reset 1 := by decide
theorem test_decode_enq : decode (.command ⟨0, 0, 100, 0x9F, 0, 0, 0⟩) = .enq 100 0x9F := by decide
theorem test_decode_gen : decode (.command ⟨0, 1, 0, 0, 1, 8, 200⟩) = .gen 1 8 200 := by decide
theorem test_decode_table_words :
    decodeTableWord 2 0 = some (.enq 0 0) ∧ decodeTableWord 2 1 = some (.gen 0 0 0) ∧
    decodeTableWord 8 2 = some (.reset 0) ∧ decodeTableWord 2 3 = some (.reset 1) ∧
    decodeTableWord 8 0x3F = some (.data 0 63) ∧ decodeTableWord 8 0xE7 = some (.lnoise 0 7) := by decide
theorem test_decode_table_refuses :
    decodeTableWord 2 4 = none ∧ decodeTableWord 8 256 = none ∧ decodeTableWord 16 0 = none ∧
    decodeTableWord 1 0 = none := by decide
theorem test_assembler_bytes :
    payloadByte (.ltone 2 1) = 0xC1 ∧ payloadByte (.latt 3 15) = 0xFF ∧ payloadByte (.lnoise 7) = 0xE7 ∧
    payloadByte (.data 64) = 0x40 := by decide

/-! ## One instruction each -/

/-- A state after reset. -/
def base : State := State.resetWith plainConfig

/-- `base` with other registers. -/
def withRegs (divisor : Vector (BitVec 10) 3) (attenuation : Vector (BitVec 4) 4) (control : BitVec 3)
    (ch : BitVec 2) (type : BitVec 1) : State :=
  { base with regs := ⟨divisor, attenuation, control, ch, type, 0⟩ }

/-- What a next state shows. -/
def after {α : Type} (f : State → α) : Host.Outcome State Fault Refusal → Option α
  | .next s => some (f s)
  | _ => none

/-- 45_register_write.md R157: `divisor[0] = 0x3F5`, payload 0x8A gives 0x3FA. -/
theorem test_ltone0 :
    after State.regs (exec (.ltone0 0xA) (withRegs #v[0x3F5, 7, 9] #v[1, 2, 3, 4] 5 3 1)) =
      some ⟨#v[0x3FA, 7, 9], #v[1, 2, 3, 4], 5, 0, 0, 0⟩ := by decide
/-- Vector W1, payload 0xA5. -/
theorem test_ltone1 :
    after State.regs (exec (.ltone1 5) (withRegs #v[14, 0, 0] #v[0, 0, 0, 0] 0 0 0)) =
      some ⟨#v[14, 5, 0], #v[0, 0, 0, 0], 0, 1, 0, 0⟩ := by decide
/-- 45_register_write.md R159: `divisor[2] = 0x012`, payload 0xC1 gives 0x011. -/
theorem test_ltone2 :
    after State.regs (exec (.ltone2 1) (withRegs #v[0, 0, 0x12] #v[0, 0, 0, 0] 0 0 1)) =
      some ⟨#v[0, 0, 0x11], #v[0, 0, 0, 0], 0, 2, 0, 0⟩ := by decide
/-- Vector W1, payload 0xE5. -/
theorem test_lnoise :
    after State.regs (exec (.lnoise 0 5) (withRegs #v[14, 1013, 0] #v[10, 0, 0, 0] 0 0 1)) =
      some ⟨#v[14, 1013, 0], #v[10, 0, 0, 0], 5, 3, 0, 0⟩ := by decide
/-- Vector W1, payload 0x95. -/
theorem test_latt0 :
    after State.regs (exec (.latt0 5) (withRegs #v[14, 1013, 0] #v[0, 0, 0, 0] 0 1 0)) =
      some ⟨#v[14, 1013, 0], #v[5, 0, 0, 0], 0, 0, 1, 0⟩ := by decide
/-- 45_register_write.md R162. -/
theorem test_latt1 :
    after State.regs (exec (.latt1 4) base) = some ⟨#v[0, 0, 0], #v[0, 4, 0, 0], 0, 1, 1, 0⟩ := by decide
/-- 45_register_write.md R163. -/
theorem test_latt2 :
    after State.regs (exec (.latt2 15) base) = some ⟨#v[0, 0, 0], #v[0, 0, 15, 0], 0, 2, 1, 0⟩ := by decide
/-- Vector W1, payload 0xFF. -/
theorem test_latt3 :
    after State.regs (exec (.latt3 15) (withRegs #v[14, 1013, 0] #v[10, 0, 0, 0] 3 3 0)) =
      some ⟨#v[14, 1013, 0], #v[10, 0, 0, 15], 3, 3, 1, 0⟩ := by decide
/-- Vector W1, payload 0x7F: upper six bits of the latched divisor. -/
theorem test_data_divisor :
    after State.regs (exec (.data 1 63) (withRegs #v[14, 5, 0] #v[0, 0, 0, 0] 0 1 0)) =
      some ⟨#v[14, 1013, 0], #v[0, 0, 0, 0], 0, 1, 0, 0⟩ := by decide
/-- Vector W1, payload 0x03: the latched control register. -/
theorem test_data_control :
    after State.regs (exec (.data 0 3) (withRegs #v[14, 1013, 0] #v[10, 0, 0, 0] 5 3 0)) =
      some ⟨#v[14, 1013, 0], #v[10, 0, 0, 0], 3, 3, 0, 0⟩ := by decide
/-- Vector F9: equal timestamps are in order. -/
theorem test_enq_equal_timestamps :
    after State.queue (exec (.enq 10 0x90) { base with queue := [⟨10, 0x9F⟩], lastTs := some 10 }) =
      some [⟨10, 0x9F⟩, ⟨10, 0x90⟩] := by decide
/-- Vector F5: the second `ENQ` raises `ORDER`. -/
theorem test_enq_out_of_order :
    after (fun s => (s.faultStatus, s.queue, s.lastTs))
      (exec (.enq 9 0x90) { base with queue := [⟨10, 0x9F⟩], lastTs := some 10 }) =
      some (2, [⟨10, 0x9F⟩], some 10) := by decide
/-- Vector T3: samples 7680, 5632, 0, 0. -/
theorem test_gen_frame_without_tick :
    after (fun s => slots s.out) (exec (.gen 1 8 4)
      { State.resetWith slowConfig with
        regs := ⟨#v[0, 0, 0], #v[0, 15, 15, 15], 0, 0, 0, 0⟩, queue := [⟨1, 0x94⟩], lastTs := some 1 }) =
      some [7680, 7680, 5632, 5632, 0, 0, 0, 0] := by decide
/-- Vector N1, tick 25: white noise takes 0x0008 to 0x8004. -/
theorem test_gen_white_shift :
    after (fun s => (s.shiftRegister, s.tickParity, s.countdown[3]))
      (exec (.gen 1 2 0) { base with
        regs := ⟨#v[0, 0, 1], #v[15, 15, 15, 0], 7, 3, 0, 0⟩, shiftRegister := 0x0008 }) =
      some (0x8004, 1, 0) := by decide
/-- Vector F8: `RESET` clears a fault; pending writes are discarded (program P4). -/
theorem test_reset_clears_a_fault :
    after (fun s => (s.faultStatus, s.queue, s.regs.attenuation, s.lastSampled))
      (exec (.reset 0) { base with
        faulted := some .buffer, queue := [⟨60, 0x90⟩], lastSampled := 100,
        regs := { base.regs with attenuation := #v[15, 0, 0, 0] } }) =
      some (0, [], #v[0, 0, 0, 0], 0) := by decide

/-- Bytes of pseudo-instructions (30_encoding.md R72, R73). -/
theorem test_assembler_expansions :
    expand (.vol 7 1 4) = [.enq 7 0xB4] ∧ expand (.noise 7 1 3) = [.enq 7 0xE7] ∧
    expand (.tone 7 2 1) = [.enq 7 0xC1, .enq 7 0x00] := by decide

/-! ## Witnesses: every obligation with hypotheses is about something -/

/-- DecodeOfEncodeIsTheInstruction, at the ends of the operand ranges. -/
theorem witness_wellFormed :
    (Instr.enq (2 ^ 64 - 1) 255).wellFormed = true ∧ (Instr.enq 0 0).wellFormed = true ∧
    (Instr.gen 1 (2 ^ 32 - 1) (2 ^ 64 - 1)).wellFormed = true ∧ (Instr.lnoise 1 7).wellFormed = true := by decide

/-- EveryWireDecodes, its three clauses. -/
theorem witness_transactions :
    (⟨1, 1, 0, 0, 0, 0, 0⟩ : Transaction).resetLine = 1#1 ∧
    (⟨0, 0, 1, 0, 0, 0, 0⟩ : Transaction).resetLine = 0#1 ∧ (⟨0, 0, 1, 0, 0, 0, 0⟩ : Transaction).op = 0#1 ∧
    (⟨0, 1, 1, 0, 0, 0, 0⟩ : Transaction).resetLine = 0#1 ∧ (⟨0, 1, 1, 0, 0, 0, 0⟩ : Transaction).op = 1#1 := by
  decide

/-- The transaction of `GEN 2, 10`. -/
def genTransaction : Transaction := ⟨0, 1, 0, 0, 1, 2, 10⟩

/-- The transaction of `RESET`. -/
def resetTransaction : Transaction := ⟨1, 0, 0, 0, 0, 0, 0⟩

/-- StepRunsTheDecodedCommand, OutputIsNeverReadBack: with and without a command; and a `GEN` on the lines. -/
theorem witness_commands :
    ({ base with commands := [genTransaction] } : State).commands = genTransaction :: [] ∧ base.commands = [] ∧
    ({ base with commands := [genTransaction] } : State).commands ≠ [] ∧
    genTransaction.resetLine = 0#1 ∧ genTransaction.op = 1#1 := by decide

/-- PlacedWordIsRunByTheNextStep: both clauses at the ends of their ranges. -/
theorem witness_placed_words :
    (0 < 4 ∧ 3 < 4) ∧ (4 ≤ 4 ∧ 255 < 256) ∧ base.lastSampled < 2 ^ cycleWidth ∧
    ({ base with lastSampled := 2 ^ 64 - 1 } : State).lastSampled < 2 ^ cycleWidth ∧
    base.cfg.decode = .standard := by decide

/-- StepKeepsTheConfiguration and the invariants: a step that runs a command and answers a next state. -/
theorem witness_step_answers :
    after (fun s => (s.out.length, s.lastSampled)) (step { base with commands := [genTransaction] }) =
      some (1, 10) := by decide

/-- EveryStepAnswersANextState: the refusal happens, on a finite queue. -/
theorem witness_step_refuses :
    step { State.resetWith shallowConfig with
      commands := [⟨0, 0, 7, 0x9F, 0, 0, 0⟩], queue := [⟨5, 0x90⟩], lastTs := some 5 } =
      .refused .queueOverflow := by rfl

/-- EnqAppendsInOrderAndElseRaisesOrder, in order: the first write after reset, an equal timestamp, and the last place of a finite
queue. -/
theorem witness_enq_in_order :
    (base.faulted = none ∧ (∀ last, base.lastTs = some last → last ≤ 0) ∧ base.queueFull = false) ∧
    (∀ last, ({ base with lastTs := some 10 } : State).lastTs = some last → last ≤ 10) ∧
    (State.resetWith shallowConfig).queueFull = false := by
  refine ⟨⟨rfl, ?_, rfl⟩, ?_, rfl⟩
  · intro last h; cases h
  · intro last h; cases h; exact le_rfl

/-- EnqAppendsInOrderAndElseRaisesOrder, out of order: one below the previous timestamp, with an empty queue. -/
theorem witness_enq_out_of_order :
    ({ base with lastTs := some 10 } : State).faulted = none ∧
    ({ base with lastTs := some 10 } : State).lastTs = some 10 ∧ 9 < 10 := by decide

/-- EnqOnAFullFiniteQueueIsRefused, at exactly `QUEUE_DEPTH` entries. -/
theorem witness_enq_full :
    let s : State := { State.resetWith shallowConfig with queue := [⟨5, 0x90⟩], lastTs := some 5 }
    s.faulted = none ∧ (∀ last, s.lastTs = some last → last ≤ 5) ∧ s.cfg.queueDepth = some 1 ∧
      1 ≤ s.queue.length := by
  refine ⟨rfl, ?_, rfl, le_rfl⟩
  intro last h; cases h; exact le_rfl

/-- GenBadBufferRaisesBuffer, GenFollowsItsSchedule: an absent buffer, an odd one, and an even one of no slot. -/
theorem witness_bad_buffer :
    base.faulted = none ∧ ((0#1 : BitVec 1) = 0#1 ∨ 0 % 2 = 1) ∧ ((1#1 : BitVec 1) = 0#1 ∨ 1 % 2 = 1) ∧
    ((1#1 : BitVec 1) = 1#1 ∧ 0 % 2 = 0) := by decide

/-- GenClockRegressionRaisesWindow, GenFollowsItsSchedule, GenOfNoFrameDrainsTheQueue: one below the last sample, and
at it. -/
theorem witness_clock_regression :
    ({ base with lastSampled := 10 } : State).faulted = none ∧ 0 % 2 = 0 ∧
    9 < ({ base with lastSampled := 10 } : State).lastSampled ∧
    ({ base with lastSampled := 10 } : State).lastSampled ≤ 10 := by decide

/-- FaultedBlockTurnsCommandsAway, and the first clause of the statements about `ENQ` and `GEN`. -/
theorem witness_faulted : ({ base with faulted := some .order } : State).faulted = some .order := by decide

/-- OnlyResetClearsAFault: a step that keeps the fault, and one that clears it. -/
theorem witness_faulted_steps :
    after State.faulted (step { base with faulted := some .order, commands := [genTransaction] }) =
      some (some .order) ∧
    after State.faulted (step { base with faulted := some .order, commands := [resetTransaction] }) =
      some none := by decide

/-- GenRunsToCompletion, GenCompletesUnderEveryDecode, GenFollowsItsSchedule, GenOfNoFrameDrainsTheQueue: a window of no
cycle. -/
theorem witness_gen_checks :
    base.faulted = none ∧ 8 % 2 = 0 ∧ 0 % 2 = 0 ∧ base.lastSampled ≤ 0 := by decide

/-- A queue with a due and a later write. -/
def twoWrites : List Pending := [⟨1, 0x94⟩, ⟨2, 0x9F⟩]

/-- WritesAreVisibleFromTheirFrameOn: the first and the last frame. -/
theorem witness_visible :
    ({ base with queue := twoWrites } : State).faulted = none ∧ 8 % 2 = 0 ∧ base.lastSampled ≤ 4 ∧ 0 < 8 / 2 ∧
    3 < 8 / 2 ∧ ({ base with queue := twoWrites } : State).queue.Pairwise (fun a b => a.ts ≤ b.ts) := by decide

/-- DrainAppliesExactlyTheDueWrites: a write at the limit and one just after it. -/
theorem witness_drain :
    twoWrites.Pairwise (fun a b => a.ts ≤ b.ts) ∧ Pending.due 1 ⟨1, 0x94⟩ = true ∧ Pending.due 1 ⟨2, 0x9F⟩ = false := by
  decide

/-- OffsetDistributesTheWindow: one frame, and the worked example `N = 4, elapsed = 7`. -/
theorem witness_offset :
    1 ≤ 1 ∧ 0 < 1 ∧ 3 < 4 ∧ [offset 0 7 4, offset 1 7 4, offset 2 7 4, offset 3 7 4] = [0, 1, 3, 5] := by decide

/-- SplittingACallChangesNothing: two calls and the one of their summed length. -/
theorem witness_split :
    ∃ s t₁ t₂ t : State, s.faulted = none ∧ s.queue = [] ∧ 2 % 2 = 0 ∧ 4 % 2 = 0 ∧ s.lastSampled ≤ 5 ∧ 5 ≤ 9 ∧
      exec (.gen 1#1 2 5) s = .next t₁ ∧ exec (.gen 1#1 4 9) t₁ = .next t₂ ∧
      exec (.gen 1#1 (2 + 4) 9) s = .next t :=
  ⟨base, _, _, _, rfl, rfl, rfl, rfl, by decide, by decide, rfl, rfl, rfl⟩

/-- TicksDoNotDependOnElapsedCycles: windows of no cycle and of 9 cycles. -/
theorem witness_elapsed :
    ∃ s t₁ t₂ : State, s.faulted = none ∧ s.queue = [] ∧ 2 % 2 = 0 ∧ s.lastSampled ≤ 0 ∧ s.lastSampled ≤ 9 ∧
      exec (.gen 1#1 2 0) s = .next t₁ ∧ exec (.gen 1#1 2 9) s = .next t₂ :=
  ⟨base, _, _, rfl, rfl, rfl, by decide, by decide, rfl, rfl⟩

/-- TicksOfOneFrame: `acc` at `CHIP_CLOCK` and one below; TicksAfterManyFrames: `acc = 0`. -/
theorem witness_acc :
    ((44100 : Nat) : Int) ≤ (base.setAcc 44100).acc ∧ (base.setAcc 44099).acc < ((44100 : Nat) : Int) ∧
    base.cfg.chipClock = 44100 ∧ base.acc = 0 := by decide

/-- ToneStepReloadsThenAlwaysDecrements, ToneHalfPeriodIsTheReloadValue: both sides of the expiry test. -/
theorem witness_tone :
    base.countdown[toneChannel 0] ≤ 0 ∧ 0 < (base.setCountdown (toneChannel 2) 1).countdown[toneChannel 2] ∧
    0 < base.regs.toneReload 0 := by decide

/-- DivisorZeroBehavesAsOne: divisor 0 and divisor 1. -/
theorem witness_divisor_zero :
    (base.regs.divisor[(0 : Fin 3)] = 0 ∨ base.regs.divisor[(0 : Fin 3)] = 1) ∧
    (let s := withRegs #v[1, 0, 0] #v[0, 0, 0, 0] 0 0 0
     (s.regs.divisor[(0 : Fin 3)] = 0 ∨ s.regs.divisor[(0 : Fin 3)] = 1) ∧ s.countdown[toneChannel 0] = 0) ∧
    base.countdown[toneChannel 0] = 0 := by decide

/-- NoiseStepGatesTheShift: no expiry, an expiry without and one with a shift, and the four rates. -/
theorem witness_noise :
    0 < (base.setCountdown noiseChannel 1).countdown[noiseChannel] ∧
    (base.countdown[noiseChannel] ≤ 0 ∧ base.tickParity ^^^ 1#1 = base.cfg.parityActive) ∧
    (base.setTickParity 1).tickParity ^^^ 1#1 ≠ (base.setTickParity 1).cfg.parityActive ∧
    (0 : BitVec 3).extractLsb' 0 2 = 0#2 ∧ (5 : BitVec 3).extractLsb' 0 2 = 1#2 ∧
    (6 : BitVec 3).extractLsb' 0 2 = 2#2 ∧ (7 : BitVec 3).extractLsb' 0 2 = 3#2 := by decide

/-- LfsrShiftMovesEveryBit, PeriodicNoiseIsARotation: the widest value, white and periodic; the lowest and highest bit
that moves; and a single 1 bit, at the ends of the register. -/
theorem witness_lfsr :
    (base.setShiftRegister 0xFFFF).shiftRegister < 2 ^ (base.setShiftRegister 0xFFFF).cfg.srWidth ∧
    (7 : BitVec 3).extractLsb' 2 1 = 1#1 ∧ base.regs.controlBits.extractLsb' 2 1 = 0#1 ∧
    0 + 1 < base.cfg.srWidth ∧ 14 + 1 < base.cfg.srWidth ∧ 15 < base.cfg.srWidth ∧
    (base.setShiftRegister 0x8000).shiftRegister = 2 ^ 15 ∧ (base.setShiftRegister 1).shiftRegister = 2 ^ 0 := by
  decide

/-- HalvingFoldIsParity, FoldIsLinear: width 1 and a width that is no power of two. -/
theorem witness_fold : (1 ≤ 1 ∧ 1 < 2 ^ 1) ∧ (1 ≤ 15 ∧ 0x7FFF < 2 ^ 15) ∧ 0 < 1 ∧ 14 < 15 := by decide

/-- ZeroSeedSilencesTheNoiseChannel: a step of a device seeded with 0. -/
theorem witness_zero_seed :
    base.cfg.srInit = 0 ∧ base.shiftRegister = 0 ∧ base.level[noiseChannel] = 0#1 ∧
    after (fun s => s.out.length) (step { base with commands := [genTransaction] }) = some 1 := by decide

/-- NoiseShiftsEverySecondExpiry: reload values 16 and 1; NoiseReloadZeroExpiresEveryTick: reload value 0. -/
theorem witness_noise_reload :
    (1 ≤ base.noiseReload ∧ base.countdown[noiseChannel] ≤ 0 ∧ base.tickParity ^^^ 1#1 = base.cfg.parityActive) ∧
    1 ≤ (withRegs #v[0, 0, 1] #v[0, 0, 0, 0] 3 0 0).noiseReload ∧
    (withRegs #v[0, 0, 0] #v[0, 0, 0, 0] 3 0 0).noiseReload = 0 ∧
    (withRegs #v[0, 0, 0] #v[0, 0, 0, 0] 3 0 0).countdown[noiseChannel] ≤ 0 := by decide

/-- SilencedChannelsGiveZeroFrames: four attenuations of 15, and a `GEN` that emits a frame. -/
theorem witness_silenced :
    let s := withRegs #v[0, 0, 0] #v[15, 15, 15, 15] 0 0 0
    s.faulted = none ∧ s.queue = [] ∧ (∀ c : Fin 4, s.regs.attenuation[c] = 15) ∧
      after (fun t => t.out.length) (exec (.gen 1 2 0) s) = some 1 := by decide

/-- DataFormWritesTheLatchedRegister: each clause at the ends of its range. -/
theorem witness_data_latch :
    ((0#2).toNat = (0 : Fin 3).val ∧ (2#2).toNat = (2 : Fin 3).val) ∧ ((3#2 : BitVec 2) = 3#2) ∧
    ((0#2).toNat = (0 : Fin 4).val ∧ (3#2).toNat = (3 : Fin 4).val) ∧
    base.regs.latchType = 0#1 ∧ (withRegs #v[0, 0, 0] #v[0, 0, 0, 0] 0 3 1).regs.latchType = 1#1 := by decide

/-- RegisterWritesTouchOnlyRegisters: the nine payload forms, and a host command is none of them. -/
theorem witness_payload_forms :
    ([Instr.ltone0 0, .ltone1 0, .ltone2 0, .lnoise 0 0, .latt0 0, .latt1 0, .latt2 0, .latt3 0, .data 0 0].all
      Instr.isPayload) = true ∧ (Instr.gen 1 0 0).isPayload = false := by decide

/-- The three invariants hold of a state with a pending write, and a step from it answers a next state. -/
theorem witness_queue_invariant :
    ({ base with queue := twoWrites, lastTs := some 2, commands := [genTransaction] } : State).QueueInv ∧
    after State.queue (step { base with queue := twoWrites, lastTs := some 2, commands := [genTransaction] }) =
      some [] := by
  refine ⟨⟨by decide, ?_, ?_, by decide, ?_⟩, by decide⟩
  · intro p hp
    refine ⟨2, rfl, ?_⟩
    simp only [twoWrites, List.mem_cons, List.not_mem_nil, or_false] at hp
    rcases hp with rfl | rfl <;> decide
  · intro last h; cases h; decide
  · intro depth h; cases h

/-- The generator and output invariants hold of a state with a command waiting, and the step answers a next state. -/
theorem witness_generator_invariant :
    ({ base with commands := [genTransaction] } : State).GeneratorInv ∧
    ({ base with commands := [genTransaction] } : State).PortInv ∧
    after (fun s => s.countdown[noiseChannel]) (step { base with commands := [genTransaction] }) = some 15 := by
  refine ⟨⟨by decide, by decide, by decide, rfl, by decide⟩, ⟨?_, rfl, fun _ => rfl⟩, by decide⟩
  intro f hf; cases hf

/-- Statements over every decode: a device with a decode other than the default, with own state, is a state of the
model. -/
theorem witness_other_decode :
    ∃ s : State, s.cfg.decode = .other 5 ∧ s.decoder = openDecoder 5 ∧ s.regs.ownState = 9 :=
  ⟨{ State.resetWith ⟨{ plainParams with decode := .other 5 }, by decide⟩ with
    regs := { Regs.reset with ownState := 9 } }, rfl, rfl, rfl⟩

/-- EveryDecodeMeetsTheContract: the default is a function that meets the contract. -/
theorem witness_decode_contract : ∃ f : Byte → Regs → Regs, DecodeContract f := ⟨defaultWrite, defaultWrite_contract⟩

/-- "it reads no state other than its own and the register it updates" (45_register_write.md R154): a function that
writes `divisor[0]` from `divisor[1]` meets no contract, so it is no decode. -/
theorem test_contract_refuses_another_register :
    ¬ DecodeContract (fun _ r => { r with divisor := r.divisor.set 0 r.divisor[1] }) := fun h =>
  absurd ((h 0).divisor Regs.reset { Regs.reset with divisor := #v[0, 1, 0] } 0 rfl rfl) (by decide)

/-- The part of that function that is a decode does not read `divisor[1]`. -/
theorem test_confine_hides_another_register :
    (confine (fun _ r => { r with divisor := r.divisor.set 0 r.divisor[1] }) 0
      { Regs.reset with divisor := #v[7, 1, 0] }).divisor[0] = 7 := by decide

end Sys2Proof.Tests
end

/-! # Commands and the shared state (family 20_memory.md) -/

namespace Sys2Proof.Machine

/-- The instruction `GEN` is the operation `gen` under the decode of the device (40_write_queue_sync.md R82). -/
theorem exec_gen (present : BitVec 1) (len now : Nat) (s : State) :
    exec (.gen present len now) s = .next (s.gen s.decoder present len now) := rfl

/-- A `GEN` that passes its checks answers the body of `GEN` (40_write_queue_sync.md R83). -/
theorem exec_gen_of_checked {len now : Nat} {s : State} (hf : s.faulted = none) (hl : len % 2 = 0)
    (hn : s.lastSampled ≤ now) : exec (.gen 1#1 len now) s = .next (s.generate s.decoder len now) := by
  rw [exec_gen, gen_of_checked s.decoder hf hl hn]

/-- The frames of a `GEN` fill a buffer of even length exactly. -/
theorem generate_slots_length (dec : Decoder) {len : Nat} (now : Nat) (s : State) (hl : len % 2 = 0) :
    (slots (s.generate dec len now).out).length = len := by
  rw [slots_length, generate_out_length]; omega

/-- Settles O21: the answer is the body of `GEN`, whose effect on each field has its own law; the loop's drains and the
last one together apply the queue once, in order (`frameLoop_applyAll`, behind `generate_regs`). -/
theorem genRunsToCompletion : Obligations.GenRunsToCompletion := by
  intro len now s hf hl hn
  refine ⟨s.generate s.decoder len now, exec_gen_of_checked hf hl hn, ?_⟩
  exact ⟨generate_out_length .., generate_slots_length _ now s hl, generate_queue .., generate_regs ..,
    generate_lastSampled .., generate_lastTs .., (generate_faulted ..).trans hf, generate_response ..,
    generate_cfg .., generate_commands ..⟩

end Sys2Proof.Machine

/-! # Encoding (family 30_encoding.md) -/

namespace Sys2Proof

/-- A payload form has no operand wider than its type, so each is well-formed (30_encoding.md R65, R66). -/
theorem wellFormed_of_isPayload {i : Instr} (h : i.isPayload = true) : i.wellFormed = true := by
  cases i with
  | reset | enq | gen => cases h
  | ltone0 | ltone1 | ltone2 | lnoise | latt0 | latt1 | latt2 | latt3 | data => rfl

/-- Every row of the payload map is a payload form (30_encoding.md R68, R70). -/
theorem decodePayload_isPayload (b : Byte) : (decodePayload b).isPayload = true := by
  unfold decodePayload
  split_ifs <;> rfl

/-- The operand lines are as wide as the operands may be (30_encoding.md R61). -/
theorem decodeCommand_wellFormed (t : Transaction) : (decodeCommand t).wellFormed = true := by
  rcases Machine.decodeCommand_cases t with ⟨-, h⟩ | ⟨-, h⟩ | ⟨-, h⟩ <;> rw [h]
  · rfl
  · exact decide_eq_true t.ts.isLt
  · exact Bool.and_eq_true_iff.mpr ⟨decide_eq_true t.len.isLt, decide_eq_true t.now.isLt⟩

/-- Whatever reaches the block decodes to a well-formed instruction (30_encoding.md R69, R70). -/
theorem decode_wellFormed (w : Wire) : (decode w).wellFormed = true := by
  cases w with
  | command t => exact decodeCommand_wellFormed t
  | payload b => exact wellFormed_of_isPayload (decodePayload_isPayload b)

/-- The reset line selects `RESET` and overrides the command lines. -/
theorem decodeCommand_of_reset {t : Transaction} (hr : t.resetLine = 1#1) : decodeCommand t = .reset t.op := by
  simp [decodeCommand, hr]

/-- Selector 0 is `ENQ`. -/
theorem decodeCommand_of_enq {t : Transaction} (hr : t.resetLine = 0#1) (ho : t.op = 0#1) :
    decodeCommand t = .enq t.ts.toNat t.payload := by
  simp [decodeCommand, hr, ho]

/-- Selector 1 is `GEN`. -/
theorem decodeCommand_of_gen {t : Transaction} (hr : t.resetLine = 0#1) (ho : t.op = 1#1) :
    decodeCommand t = .gen t.present t.len.toNat t.now.toNat := by
  simp [decodeCommand, hr, ho]

/-- Settles O4: the two decoders answer well-formed instructions, and each selector has its own equation. -/
theorem everyWireDecodes : Obligations.EveryWireDecodes :=
  ⟨decode_wellFormed, fun _ => decodeCommand_of_reset, fun _ => decodeCommand_of_enq, fun _ => decodeCommand_of_gen⟩

end Sys2Proof

/-! # The write queue and the clock synchronizer (family 40_write_queue_sync.md) -/

namespace Sys2Proof.Machine

/-! ## DRAIN -/

/-- The due test is a comparison with the window position (40_write_queue_sync.md R86). -/
theorem due_iff (limit : Nat) (p : Pending) : p.due limit = true ↔ p.ts ≤ limit := decide_eq_true_iff

/-- A write is not due when its timestamp is above the window position (40_write_queue_sync.md R86). -/
theorem due_eq_false_iff (limit : Nat) (p : Pending) : p.due limit = false ↔ limit < p.ts := by
  simp [Pending.due]

/-- A drain takes the longest run of due writes at the old end, and leaves the rest as it was
(40_write_queue_sync.md R87). -/
theorem drainDue_eq_takeWhile (dec : Decoder) (limit : Nat) (q : List Pending) (r : Regs) :
    drainDue dec limit q r = (applyAll dec (q.takeWhile (·.due limit)) r, q.dropWhile (·.due limit)) := by
  induction q generalizing r with
  | nil => rfl
  | cons p q ih =>
    cases h : p.due limit with
    | true => simp [drainDue, h, ih]
    | false => simp [drainDue, h]

/-- `DRAIN` as one update of the registers and the queue. -/
theorem drain_eq (dec : Decoder) (startCycle off : Nat) (s : State) :
    s.drain dec startCycle off = { s with
      regs := applyAll dec (s.queue.takeWhile (·.due (startCycle + off))) s.regs
      queue := s.queue.dropWhile (·.due (startCycle + off)) } := by
  simp only [State.drain, drainDue_eq_takeWhile, State.setRegs, State.setQueue]

/-- Settles O26: the old part is the run of due writes at the head of the queue, and the loop stops at the first entry
that is not due. -/
theorem drainStopsAtTheFirstWriteNotDue : Obligations.DrainStopsAtTheFirstWriteNotDue := by
  intro dec startCycle off s
  refine ⟨_, _, List.takeWhile_append_dropWhile.symm, drain_eq dec startCycle off s, fun p hp => ?_, fun p hp => ?_⟩
  · exact (due_iff _ p).mp (List.mem_takeWhile_imp hp)
  · have hnot : p.due (startCycle + off) = false := by
      simpa [hp] using List.head?_dropWhile_not (·.due (startCycle + off)) s.queue
    exact (due_eq_false_iff _ p).mp hnot

/-! ## ENQ -/

/-- The instruction `ENQ` is the operation `execEnq` (40_write_queue_sync.md R80). -/
theorem exec_enq (ts : Nat) (payload : Byte) (s : State) : exec (.enq ts payload) s = execEnq ts payload s := rfl

/-- An `ENQ` after a fault is turned away (60_exceptions.md R185). -/
theorem execEnq_of_faulted {ts : Nat} {payload : Byte} {s : State} {code : FaultCode} (hf : s.faulted = some code) :
    execEnq ts payload s = .next (s.turnAway code) := by
  simp [execEnq, hf]

/-- A timestamp below `lastTs` is out of order (40_write_queue_sync.md R80). -/
theorem outOfOrder_of_lt {ts last : Nat} {s : State} (hl : s.lastTs = some last) (hts : ts < last) :
    s.outOfOrder ts = true := by
  simp [State.outOfOrder, hl, hts]

/-- A timestamp at or above `lastTs`, and any timestamp after reset, is in order (40_write_queue_sync.md R80). -/
theorem outOfOrder_of_ge {ts : Nat} {s : State} (ho : ∀ last, s.lastTs = some last → last ≤ ts) :
    s.outOfOrder ts = false := by
  cases hl : s.lastTs with
  | none => simp [State.outOfOrder, hl]
  | some last => simpa [State.outOfOrder, hl] using ho last hl

/-- An `ENQ` out of order raises `ORDER`, whether or not the queue has room (60_exceptions.md R183). -/
theorem execEnq_of_outOfOrder {ts : Nat} {payload : Byte} {s : State} (hf : s.faulted = none)
    (ho : s.outOfOrder ts = true) : execEnq ts payload s = .next (s.raise .order) := by
  simp [execEnq, hf, ho]

/-- An `ENQ` in order, on a queue with room, is accepted (40_write_queue_sync.md R80). -/
theorem execEnq_of_accepted {ts : Nat} {payload : Byte} {s : State} (hf : s.faulted = none)
    (ho : s.outOfOrder ts = false) (hq : s.queueFull = false) :
    execEnq ts payload s = .next (s.begin.push ts payload) := by
  simp [execEnq, hf, ho, hq]

/-- An unbounded queue is never full (decision D19). -/
theorem queueFull_of_unbounded {s : State} (h : s.cfg.queueDepth = none) : s.queueFull = false := by
  simp [State.queueFull, h]

/-- Settles O14: one equation of `ENQ` per outcome; the order test is the comparison with `lastTs` alone. -/
theorem enqAppendsInOrderAndElseRaisesOrder : Obligations.EnqAppendsInOrderAndElseRaisesOrder := by
  intro ts payload s
  simp only [exec_enq]
  refine ⟨fun code hf => ?_, fun last hf hl hts => ?_, fun hf ho hq => ?_, queueFull_of_unbounded, rfl⟩
  · exact execEnq_of_faulted hf
  · exact execEnq_of_outOfOrder hf (outOfOrder_of_lt hl hts)
  · exact execEnq_of_accepted hf (outOfOrder_of_ge ho) hq

/-! ## GEN -/

/-- A `GEN` after a fault is turned away (60_exceptions.md R185). -/
theorem gen_of_faulted (dec : Decoder) {present : BitVec 1} {len now : Nat} {s : State} {code : FaultCode}
    (hf : s.faulted = some code) : s.gen dec present len now = s.turnAway code := by
  simp [State.gen, hf]

/-- A `GEN` with an absent or odd buffer raises `BUFFER`, whatever the counter sample (60_exceptions.md R181, R187). -/
theorem gen_of_badBuffer (dec : Decoder) {present : BitVec 1} {len now : Nat} {s : State}
    (hf : s.faulted = none) (hb : present = 0#1 ∨ len % 2 = 1) :
    s.gen dec present len now = s.raise .buffer := by
  simp [State.gen, hf, hb]

/-- A `GEN` with a good buffer whose counter sample went back raises `WINDOW` (60_exceptions.md R182). -/
theorem gen_of_regression (dec : Decoder) {len now : Nat} {s : State} (hf : s.faulted = none) (hl : len % 2 = 0)
    (hn : now < s.lastSampled) : s.gen dec 1#1 len now = s.raise .window := by
  simp [State.gen, hf, hl, hn]

/-- The frame loop is the passes in the order of their frames (40_write_queue_sync.md R83). -/
theorem frameLoop_eq_foldl (dec : Decoder) (w : Window) (i k : Nat) (s : State) :
    s.frameLoop dec w i k = (List.range' i k).foldl (fun u j => u.framePass dec w j) s := by
  induction k generalizing i s with
  | zero => rfl
  | succ k ih => rw [State.frameLoop, ih, List.range'_succ, List.foldl_cons]

/-- The body of `GEN`: the passes, the unconditional drain, the counter sample (40_write_queue_sync.md R83). -/
theorem generate_eq_foldl (dec : Decoder) (len now : Nat) (s : State) :
    s.generate dec len now =
      (((List.range (len / 2)).foldl (fun u i => u.framePass dec (s.window len now) i) s.begin).drainAll
        dec).setLastSampled now := by
  rw [State.generate, frameLoop_eq_foldl, List.range_eq_range']; rfl

/-- Settles O20: one equation of `GEN` per outcome of its checks; the frame loop is the fold over the frames. -/
theorem genFollowsItsSchedule : Obligations.GenFollowsItsSchedule := by
  intro present len now s
  refine ⟨fun code hf => ?_, fun hf hb => ?_, fun hf hp hl hn => ?_, fun hf hp hl hn => ?_⟩
  · rw [exec_gen, gen_of_faulted _ hf]; rfl
  · rw [exec_gen, gen_of_badBuffer _ hf hb]; rfl
  · subst hp; rw [exec_gen, gen_of_regression _ hf hl hn]; rfl
  · subst hp; rw [exec_gen_of_checked hf hl hn, generate_eq_foldl]; rfl

/-- A `GEN` of no frame is the unconditional drain and the counter sample (40_write_queue_sync.md R93). -/
theorem generate_zero (dec : Decoder) (now : Nat) (s : State) :
    s.generate dec 0 now = (s.begin.drainAll dec).setLastSampled now := rfl

/-- Settles O23: an empty buffer has even length and no frame, so only the last drain and the sample are left. -/
theorem genOfNoFrameDrainsTheQueue : Obligations.GenOfNoFrameDrainsTheQueue := by
  intro now s hf
  refine ⟨fun hn => ?_, fun hn => ?_⟩
  · rw [exec_gen_of_checked hf rfl hn, generate_zero]; rfl
  · rw [exec_gen, gen_of_regression _ hf rfl hn]; rfl

end Sys2Proof.Machine

/-! # The chip-tick accumulator (family 41_tick_accumulator.md) -/

namespace Sys2Proof.Machine

/-- The loop of `ACC_STEP`, run as often as it is due: ticks until `acc` is no longer negative
(41_tick_accumulator.md R101). -/
def State.tickUntilNonneg (s : State) : State := s.tickWhileNegative (ticksDue s.acc)

/-- `ACC_STEP` charges the frame, then runs the loop (41_tick_accumulator.md R101). -/
theorem accStep_eq_tickUntilNonneg (s : State) : s.accStep = s.chargeFrame.tickUntilNonneg := rfl

/-- The loop is over when `acc` is not negative. -/
theorem tickUntilNonneg_of_nonneg {s : State} (h : 0 ≤ s.acc) : s.tickUntilNonneg = s :=
  tickWhileNegative_of_nonneg h _

/-- One round of the loop; the ticks still due after it are one fewer, so the bound does not end the loop. -/
theorem tickUntilNonneg_of_neg {s : State} (h : s.acc < 0) :
    s.tickUntilNonneg = (s.tick.setAcc (s.tick.acc + sampleRate)).tickUntilNonneg := by
  rw [State.tickUntilNonneg, State.tickUntilNonneg, ticksDue_of_neg h, State.tickWhileNegative, if_pos h, setAcc_acc,
    tick_acc]

/-- The loop leaves `acc` at 0 or above. -/
theorem tickUntilNonneg_acc_nonneg (s : State) : 0 ≤ s.tickUntilNonneg.acc := by
  rw [State.tickUntilNonneg, tickWhileNegative_due, setAcc_acc]
  exact (ticksDue_spec s.acc).1

/-- Settles O30: the loop's equation holds with the number of ticks due as its bound, by cases on the sign of `acc`. -/
theorem accStepIsTheWhileLoop : Obligations.AccStepIsTheWhileLoop := by
  refine ⟨State.tickUntilNonneg, fun u => ?_, tickUntilNonneg_acc_nonneg, accStep_eq_tickUntilNonneg⟩
  by_cases h : u.acc < 0
  · rw [if_pos h]; exact tickUntilNonneg_of_neg h
  · rw [if_neg h]; exact tickUntilNonneg_of_nonneg (Int.not_lt.mp h)

end Sys2Proof.Machine

/-! # The tone generator (family 42_tone.md) -/

namespace Sys2Proof.Machine

/-- The reload value as a countdown: the stored divisor, 0 read as 1 (42_tone.md R111). -/
theorem toneReload_cast (r : Regs) (c : Fin 3) :
    (r.toneReload c : Int) = if r.divisor[c] = 0 then 1 else (r.divisor[c].toNat : Int) := by
  rw [Regs.toneReload, Nat.cast_ite, Nat.cast_one]

/-- The expiry test is the comparison with 0 (42_tone.md R110). -/
theorem expired_iff (s : State) (c : Fin 4) : s.expired c = true ↔ s.countdown[c] ≤ 0 := by
  rw [State.expired, decide_eq_true_iff]

section Expiry
variable {s : State} {c : Fin 3}

/-- On an expiry the level flips (42_tone.md R110). -/
theorem toneLevel_of_nonpos (h : s.countdown[toneChannel c] ≤ 0) :
    s.toneLevel c = s.level[toneChannel c] ^^^ 1#1 :=
  if_pos ((expired_iff s _).mpr h)

/-- Without an expiry the level stays (42_tone.md R110). -/
theorem toneLevel_of_pos (h : 0 < s.countdown[toneChannel c]) : s.toneLevel c = s.level[toneChannel c] :=
  if_neg fun he => Int.not_le.mpr h ((expired_iff s _).mp he)

/-- On an expiry the countdown is reloaded, and the same step decrements it (42_tone.md R110). -/
theorem toneCount_of_nonpos (h : s.countdown[toneChannel c] ≤ 0) :
    s.toneCount c = (s.regs.toneReload c : Int) - 1 := by
  rw [State.toneCount, if_pos ((expired_iff s _).mpr h)]

/-- Without an expiry the countdown is decremented (42_tone.md R110). -/
theorem toneCount_of_pos (h : 0 < s.countdown[toneChannel c]) :
    s.toneCount c = s.countdown[toneChannel c] - 1 := by
  rw [State.toneCount, if_neg fun he => Int.not_le.mpr h ((expired_iff s _).mp he)]

end Expiry

/-- Settles O35: a tone step writes its channel's level and countdown (`toneStep_eq`), by cases on the expiry test;
without an expiry the level is written back as it was. -/
theorem toneStepReloadsThenAlwaysDecrements : Obligations.ToneStepReloadsThenAlwaysDecrements := by
  intro s c
  refine ⟨fun hexpiry => ?_, fun hpos => ?_⟩
  · rw [toneStep_eq, toneLevel_of_nonpos hexpiry, toneCount_of_nonpos hexpiry, toneReload_cast]
  · have hlevel : s.level.set (toneChannel c) s.level[toneChannel c] = s.level := Vector.set_getElem_self _
    rw [toneStep_eq, toneLevel_of_pos hpos, toneCount_of_pos hpos, hlevel]

end Sys2Proof.Machine

/-! # The noise generator (family 43_noise.md) -/

namespace Sys2Proof.Machine

/-! ## The shift -/

/-- White noise feeds the parity of the tapped bits (43_noise.md R125). -/
theorem feed_of_white {s : State} (h : s.regs.ntype = 1#1) :
    s.feed = fold s.cfg.srWidth (s.shiftRegister &&& s.cfg.tapMask) := if_pos h

/-- Periodic noise feeds bit 0 of the register (43_noise.md R125). -/
theorem feed_of_periodic {s : State} (h : s.regs.ntype = 0#1) : s.feed = BitVec.ofNat 1 s.shiftRegister := by
  rw [State.feed, if_neg (by rw [h]; decide)]

/-- The one bit of `FOLD(v)` is set when `popcount(v)` is odd (43_noise.md R126). -/
theorem fold_testBit_zero (w v : Nat) : (fold w v).toNat.testBit 0 = (popcount w v % 2 == 1) := by
  simp [fold, Nat.testBit_zero, beq_eq_decide]

/-- The one bit of a number cut to one bit is its bit 0. -/
theorem ofNat_one_testBit_zero (v : Nat) : (BitVec.ofNat 1 v).toNat.testBit 0 = v.testBit 0 := by
  simp [Nat.testBit_zero]

/-- A shift writes the register and `level[3]`, each once. -/
theorem lfsrShift_eq (s : State) :
    s.lfsrShift = { s with
      shiftRegister := s.lfsrShift.shiftRegister
      level := s.level.set noiseChannel (BitVec.ofNat 1 s.lfsrShift.shiftRegister) } := rfl

/-- After a shift the feed bit stands at the top of the register (43_noise.md R125). -/
theorem lfsrShift_testBit_top {s : State} (hs : s.shiftRegister < 2 ^ s.cfg.srWidth) :
    s.lfsrShift.shiftRegister.testBit (s.cfg.srWidth - 1) = s.feed.toNat.testBit 0 := by
  obtain ⟨-, hwidth, -⟩ := s.cfg.valid
  exact shiftIn_testBit_top s.feed hwidth hs

/-- A shift keeps the register below `2^W_SR`. -/
theorem lfsrShift_lt {s : State} (hs : s.shiftRegister < 2 ^ s.cfg.srWidth) :
    s.lfsrShift.shiftRegister < 2 ^ s.cfg.srWidth := by
  obtain ⟨-, hwidth, -⟩ := s.cfg.valid
  exact shiftIn_lt s.feed hwidth hs

/-- Settles O39: the bits below the top are those of `shiftIn`; the top bit is the feed bit, by cases on `ntype`. -/
theorem lfsrShiftMovesEveryBit : Obligations.LfsrShiftMovesEveryBit := by
  intro s hs
  refine ⟨fun j hj => shiftIn_testBit_low _ _ hj, fun hwhite => ?_, fun hperiodic => ?_, lfsrShift_lt hs,
    lfsrShift_eq s⟩
  · rw [lfsrShift_testBit_top hs, feed_of_white hwhite, fold_testBit_zero]
  · rw [lfsrShift_testBit_top hs, feed_of_periodic hperiodic, ofNat_one_testBit_zero]

/-! ## The noise step -/

section Expiry
variable {s : State}

/-- Without an expiry the noise countdown is decremented (43_noise.md R120). -/
theorem noiseCount_of_pos (h : 0 < s.countdown[noiseChannel]) :
    s.noiseCount = s.countdown[noiseChannel] - 1 := by
  rw [State.noiseCount, if_neg fun he => Int.not_le.mpr h ((expired_iff s _).mp he)]

/-- On an expiry the noise countdown is reloaded, and the same step decrements it (43_noise.md R120). -/
theorem noiseCount_of_nonpos (h : s.countdown[noiseChannel] ≤ 0) :
    s.noiseCount = (s.noiseReload : Int) - 1 := by
  rw [State.noiseCount, if_pos ((expired_iff s _).mpr h)]

/-- Without an expiry `tickParity` stays (43_noise.md R123). -/
theorem noiseParity_of_pos (h : 0 < s.countdown[noiseChannel]) : s.noiseParity = s.tickParity :=
  if_neg fun he => Int.not_le.mpr h ((expired_iff s _).mp he)

/-- On an expiry `tickParity` toggles (43_noise.md R123). -/
theorem noiseParity_of_nonpos (h : s.countdown[noiseChannel] ≤ 0) : s.noiseParity = s.tickParity ^^^ 1#1 :=
  if_pos ((expired_iff s _).mpr h)

/-- A noise step shifts on an expiry that toggles `tickParity` to the active phase, and on no other
(43_noise.md R123). -/
theorem noiseShifts_iff :
    s.noiseShifts = true ↔ s.countdown[noiseChannel] ≤ 0 ∧ s.tickParity ^^^ 1#1 = s.cfg.parityActive := by
  rw [State.noiseShifts, Bool.and_eq_true, expired_iff, beq_iff_eq]

/-- A noise step without a shift writes the countdown and `tickParity` only. -/
theorem noiseStep_of_not_shifts (h : ¬ s.noiseShifts = true) :
    s.noiseStep = { s with
      countdown := s.countdown.set noiseChannel s.noiseCount
      tickParity := s.noiseParity } := by
  have hlevel : s.level.set noiseChannel s.level[noiseChannel] = s.level := Vector.set_getElem_self _
  rw [noiseStep_eq, State.noiseRegister, State.noiseLevel, if_neg h, if_neg h, hlevel]

/-- A noise step that shifts writes besides them the register and `level[3]`, as `lfsrShift` does. -/
theorem noiseStep_of_shifts (h : s.noiseShifts = true) :
    s.noiseStep = { s with
      countdown := s.countdown.set noiseChannel s.noiseCount
      tickParity := s.noiseParity
      shiftRegister := s.lfsrShift.shiftRegister
      level := s.level.set noiseChannel (BitVec.ofNat 1 s.lfsrShift.shiftRegister) } := by
  rw [noiseStep_eq, State.noiseRegister, State.noiseLevel, if_pos h, if_pos h]; rfl

end Expiry

/-- The reload value by rate: presets 0 to 2, and `divisor[2]` as it is at rate 3 (43_noise.md R122). -/
theorem noiseReload_by_rate (s : State) :
    (s.regs.rate = 0#2 → s.noiseReload = s.cfg.noisePreset[0]) ∧
    (s.regs.rate = 1#2 → s.noiseReload = s.cfg.noisePreset[1]) ∧
    (s.regs.rate = 2#2 → s.noiseReload = s.cfg.noisePreset[2]) ∧
    (s.regs.rate = 3#2 → s.noiseReload = s.regs.divisor[2].toNat) := by
  refine ⟨fun h => ?_, fun h => ?_, fun h => ?_, fun h => ?_⟩ <;> simp [State.noiseReload, h]

/-- Settles O38: by cases on the expiry test, and on an expiry on the parity gate. -/
theorem noiseStepGatesTheShift : Obligations.NoiseStepGatesTheShift := by
  intro s
  refine ⟨fun hpos => ?_, fun hexpiry hclosed => ?_, fun hexpiry hopen => ?_, noiseReload_by_rate s⟩
  · have hstay : ¬ s.noiseShifts = true := fun h => Int.not_le.mpr hpos (noiseShifts_iff.mp h).1
    rw [noiseStep_of_not_shifts hstay, noiseCount_of_pos hpos, noiseParity_of_pos hpos]
  · have hstay : ¬ s.noiseShifts = true := fun h => hclosed (noiseShifts_iff.mp h).2
    rw [noiseStep_of_not_shifts hstay, noiseCount_of_nonpos hexpiry, noiseParity_of_nonpos hexpiry]
  · have hshift : s.noiseShifts = true := noiseShifts_iff.mpr ⟨hexpiry, hopen⟩
    rw [noiseStep_of_shifts hshift, noiseCount_of_nonpos hexpiry, noiseParity_of_nonpos hexpiry]

end Sys2Proof.Machine

/-! # The mixer (family 44_mixer.md) -/

namespace Sys2Proof.Machine

/-- An attenuation is at most 15, so the natural difference of the weight loses nothing. -/
theorem weight_cast (r : Regs) (c : Fin 4) : (r.weight c : Int) = 15 - (r.attenuation[c].toNat : Int) := by
  have h : r.attenuation[c].toNat ≤ 15 := Nat.le_of_lt_succ r.attenuation[c].isLt
  rw [Regs.weight, Nat.cast_sub h, Nat.cast_ofNat]

/-- A channel's contribution as an integer product (44_mixer.md R140). -/
theorem contribution_cast (s : State) (c : Fin 4) :
    (s.contribution c : Int) = s.level[c].toNat * (15 - (s.regs.attenuation[c].toNat : Int)) := by
  rw [State.contribution, Nat.cast_mul, weight_cast]

/-- The mix as an integer is the sum of the four contributions. -/
theorem mix_cast (s : State) :
    (s.mix : Int) = s.contribution 0 + s.contribution 1 + s.contribution 2 + s.contribution 3 := by
  simp only [State.mix, Nat.cast_add]

/-- Settles O46: the scaled sum fits the signed format (`sample_toInt`), and each weight is at most 15, so the model's
sum of natural numbers is the spec's sum of integers (`contribution_cast`). -/
theorem sampleIsTheScaledSum : Obligations.SampleIsTheScaledSum := by
  intro s
  have hvalue := sample_toInt s
  have hfits := scaled_mix_le s
  refine ⟨?_, mix_le s, ?_, ?_⟩
  · rw [hvalue, Nat.cast_mul, mul_comm, mix_cast]
    simp only [contribution_cast]
    rfl
  · rw [hvalue]; exact Int.natCast_nonneg _
  · rw [hvalue]; exact Int.ofNat_le.mpr hfits

end Sys2Proof.Machine

/-! # Register writes (family 45_register_write.md) -/

namespace Sys2Proof.Machine

/-- The byte that encodes a payload form decodes to that form, once the form's round trip is known
(30_encoding.md R68). -/
theorem decodePayload_of_encode {i : Instr} {b : Byte} (hpayload : i.isPayload = true)
    (hroundTrip : Laws.RoundTrip.Statement i) (hbyte : encode i = .payload b) : decodePayload b = i := by
  have hdecode : decode (encode i) = i := hroundTrip (wellFormed_of_isPayload hpayload)
  rwa [hbyte] at hdecode

/-! ## The nine forms on the registers -/

section Forms
variable (ignored : BitVec 1) (d3 : BitVec 3) (d4 : BitVec 4) (d6 : BitVec 6) (s : State)

/-- Latching a tone register as one update: the latch, and the low nibble of the divisor (R157 to R159). -/
theorem latchTone_eq (c : Fin 3) : s.latchTone c d4 = { s with regs := { s.regs with
    latchCh := BitVec.ofNat 2 c, latchType := 0
    divisor := s.regs.divisor.set c (s.regs.divisor[c].extractLsb' 4 6 ++ d4) } } := rfl

/-- Latching an attenuation register as one update: the latch, and the attenuation (R161 to R164). -/
theorem latchAttenuation_eq (c : Fin 4) : s.latchAttenuation c d4 = { s with regs := { s.regs with
    latchCh := BitVec.ofNat 2 c, latchType := 1, attenuation := s.regs.attenuation.set c d4 } } := rfl

theorem exec_ltone0 : exec (.ltone0 d4) s = .next (s.latchTone 0 d4) := rfl
theorem exec_ltone1 : exec (.ltone1 d4) s = .next (s.latchTone 1 d4) := rfl
theorem exec_ltone2 : exec (.ltone2 d4) s = .next (s.latchTone 2 d4) := rfl
theorem exec_latt0 : exec (.latt0 d4) s = .next (s.latchAttenuation 0 d4) := rfl
theorem exec_latt1 : exec (.latt1 d4) s = .next (s.latchAttenuation 1 d4) := rfl
theorem exec_latt2 : exec (.latt2 d4) s = .next (s.latchAttenuation 2 d4) := rfl
theorem exec_latt3 : exec (.latt3 d4) s = .next (s.latchAttenuation 3 d4) := rfl

/-- `LNOISE` writes `controlBits` under the latch (3, 0), whatever its ignored bit (R160). -/
theorem exec_lnoise :
    exec (.lnoise ignored d3) s = .next (s.setRegs ((s.regs.setLatch 3 0).setControl d3)) := rfl

/-- `DATA` writes the register the latch names, whatever its ignored bit (R165). -/
theorem exec_data : exec (.data ignored d6) s =
    .next (s.setRegs (s.regs.writeData d6 (selectReg s.regs.latchCh s.regs.latchType))) := rfl

end Forms

/-! ## The latched register -/

/-- Kind 0 on a tone channel selects its divisor (10_state.md R31). -/
theorem selectReg_eq_divisor {ch : BitVec 2} {type : BitVec 1} {c : Fin 3} (hch : ch.toNat = c.val)
    (htype : type = 0#1) : selectReg ch type = .divisor c := by
  have htone : ch.toNat < 3 := hch ▸ c.isLt
  have hc : (⟨ch.toNat, htone⟩ : Fin 3) = c := Fin.ext hch
  rw [selectReg, htype, if_neg (by decide), dif_pos htone, hc]

/-- Kind 0 on the noise channel selects `controlBits` (10_state.md R31). -/
theorem selectReg_eq_control {ch : BitVec 2} {type : BitVec 1} (hch : ch = 3#2) (htype : type = 0#1) :
    selectReg ch type = .control := by
  rw [hch, htype]; rfl

/-- Kind 1 selects the channel's attenuation (10_state.md R31). -/
theorem selectReg_eq_attenuation {ch : BitVec 2} {type : BitVec 1} {c : Fin 4} (hch : ch.toNat = c.val)
    (htype : type = 1#1) : selectReg ch type = .attenuation c := by
  have hc : ch.toFin = c := Fin.ext hch
  rw [selectReg, if_pos htype, hc]

/-- A `DATA` whose latch names the register `n` writes `n`. -/
theorem exec_data_of_selectReg (ignored : BitVec 1) (d6 : BitVec 6) {s : State} {n : RegName}
    (hsel : selectReg s.regs.latchCh s.regs.latchType = n) :
    exec (.data ignored d6) s = .next (s.setRegs (s.regs.writeData d6 n)) := by
  rw [exec_data, hsel]

/-! ## The obligations -/

open Laws

/-- Settles O48: each byte decodes by its form's round trip, and each form latches its tone register
(`latchTone_eq`). -/
theorem toneLatchFormsWriteTheLowNibble : Obligations.ToneLatchFormsWriteTheLowNibble := by
  intro d4 s
  refine ⟨⟨decodePayload_of_encode rfl (RoundTrip.ltone0 d4) rfl, ?_⟩,
    ⟨decodePayload_of_encode rfl (RoundTrip.ltone1 d4) rfl, ?_⟩,
    ⟨decodePayload_of_encode rfl (RoundTrip.ltone2 d4) rfl, ?_⟩⟩
  · rw [exec_ltone0, latchTone_eq]; rfl
  · rw [exec_ltone1, latchTone_eq]; rfl
  · rw [exec_ltone2, latchTone_eq]; rfl

/-- Settles O49: each byte decodes by its form's round trip, and each form latches its attenuation register
(`latchAttenuation_eq`). -/
theorem attenuationLatchFormsWriteTheirChannel : Obligations.AttenuationLatchFormsWriteTheirChannel := by
  intro d4 s
  refine ⟨⟨decodePayload_of_encode rfl (RoundTrip.latt0 d4) rfl, ?_⟩,
    ⟨decodePayload_of_encode rfl (RoundTrip.latt1 d4) rfl, ?_⟩,
    ⟨decodePayload_of_encode rfl (RoundTrip.latt2 d4) rfl, ?_⟩,
    ⟨decodePayload_of_encode rfl (RoundTrip.latt3 d4) rfl, ?_⟩⟩
  · rw [exec_latt0, latchAttenuation_eq]; rfl
  · rw [exec_latt1, latchAttenuation_eq]; rfl
  · rw [exec_latt2, latchAttenuation_eq]; rfl
  · rw [exec_latt3, latchAttenuation_eq]; rfl

/-- Settles O50: the ignored bit is kept by the decoder and dropped by the meaning (`exec_lnoise`). -/
theorem noiseLatchFormWritesControlBits : Obligations.NoiseLatchFormWritesControlBits := by
  intro ignored d3 s
  exact ⟨decodePayload_of_encode rfl (RoundTrip.lnoise ignored d3) rfl, exec_lnoise ignored d3 s⟩

/-- Settles O51: by the register that the latch selects, a divisor, `controlBits` or an attenuation. -/
theorem dataFormWritesTheLatchedRegister : Obligations.DataFormWritesTheLatchedRegister := by
  intro ignored d6 s
  refine ⟨decodePayload_of_encode rfl (RoundTrip.data ignored d6) rfl, fun c hch htype => ?_, fun hch htype => ?_,
    fun c hch htype => ?_⟩
  · exact exec_data_of_selectReg ignored d6 (selectReg_eq_divisor hch htype)
  · exact exec_data_of_selectReg ignored d6 (selectReg_eq_control hch htype)
  · exact exec_data_of_selectReg ignored d6 (selectReg_eq_attenuation hch htype)

/-- Every payload form answers a state with other registers and nothing else changed (R152). -/
theorem exec_payload_eq_setRegs {i : Instr} (hpayload : i.isPayload = true) (s : State) :
    ∃ r, exec i s = .next (s.setRegs r) := by
  cases i with
  | reset | enq | gen => cases hpayload
  | ltone0 d4 => exact ⟨_, exec_ltone0 d4 s⟩
  | ltone1 d4 => exact ⟨_, exec_ltone1 d4 s⟩
  | ltone2 d4 => exact ⟨_, exec_ltone2 d4 s⟩
  | latt0 d4 => exact ⟨_, exec_latt0 d4 s⟩
  | latt1 d4 => exact ⟨_, exec_latt1 d4 s⟩
  | latt2 d4 => exact ⟨_, exec_latt2 d4 s⟩
  | latt3 d4 => exact ⟨_, exec_latt3 d4 s⟩
  | lnoise ignored d3 => exact ⟨_, exec_lnoise ignored d3 s⟩
  | data ignored d6 => exact ⟨_, exec_data ignored d6 s⟩

/-- Settles O53: a payload form answers `setRegs` of the state (`exec_payload_eq_setRegs`), and `APPLY` is `setRegs` of
what the decode writes. -/
theorem registerWritesTouchOnlyRegisters : Obligations.RegisterWritesTouchOnlyRegisters :=
  ⟨fun _ s hpayload => exec_payload_eq_setRegs hpayload s, fun dec b s => ⟨dec.write b s.regs, rfl⟩⟩

end Sys2Proof.Machine

/-! # Faults (family 60_exceptions.md) -/

namespace Sys2Proof.Machine

/-- A `GEN` with a good buffer whose counter sample went back raises `WINDOW` (60_exceptions.md R182). -/
theorem exec_gen_of_regression {len now : Nat} {s : State} (hf : s.faulted = none) (hl : len % 2 = 0)
    (hn : now < s.lastSampled) : exec (.gen 1#1 len now) s = .next (s.raise .window) := by
  rw [exec_gen, gen_of_regression s.decoder hf hl hn]

/-- Settles O16: a bad buffer raises `BUFFER` before the counter sample is looked at; a good one answers, by cases on
the sample, `WINDOW` or the body of `GEN`, which records no fault. -/
theorem genBadBufferRaisesBuffer : Obligations.GenBadBufferRaisesBuffer := by
  intro present len now s hf
  refine ⟨fun hbad => ?_, fun hpresent hl => ?_, rfl⟩
  · rw [exec_gen, gen_of_badBuffer _ hf hbad]; rfl
  · subst hpresent
    rcases Nat.lt_or_ge now s.lastSampled with hback | hforward
    · refine ⟨s.raise .window, exec_gen_of_regression hf hl hback, ?_⟩
      rw [raise_faulted]; decide
    · refine ⟨s.generate s.decoder len now, exec_gen_of_checked hf hl hforward, ?_⟩
      rw [generate_faulted, hf]; decide

/-- Settles O17: the comparison with `lastSampled` alone decides between `WINDOW` and the body of `GEN`, which records
no fault. -/
theorem genClockRegressionRaisesWindow : Obligations.GenClockRegressionRaisesWindow := by
  intro len now s hf hl
  refine ⟨fun hback => ?_, fun hforward => ?_, rfl⟩
  · exact exec_gen_of_regression hf hl hback
  · exact ⟨s.generate s.decoder len now, exec_gen_of_checked hf hl hforward, (generate_faulted ..).trans hf⟩

/-- The instruction `RESET` constructs the block anew, whatever its ignored operand (70_reset_and_hazards.md R210). -/
theorem exec_reset (op : BitVec 1) (s : State) : exec (.reset op) s = .next s.construct := rfl

/-- The status is 0 when no fault is recorded (10_state.md R23). -/
theorem faultStatus_of_not_faulted {s : State} (hf : s.faulted = none) : s.faultStatus = 0 := by
  rw [State.faultStatus, hf]

/-- Settles O18: `ENQ` and `GEN` look at the recorded fault first and turn the command away; `RESET` constructs a state
without a fault. -/
theorem faultedBlockTurnsCommandsAway : Obligations.FaultedBlockTurnsCommandsAway := by
  intro s code hf
  refine ⟨fun ts payload => ?_, fun present len now => ?_, fun op => ?_⟩
  · rw [exec_enq, execEnq_of_faulted hf]; rfl
  · rw [exec_gen, gen_of_faulted _ hf]; rfl
  · exact ⟨s.construct, exec_reset op s, faultStatus_of_not_faulted (construct_faulted s)⟩

end Sys2Proof.Machine

/-! # Encoding: the round trip and the assembler -/

namespace Sys2Proof

/-- The round trip of every instruction, one law per constructor (30_encoding.md R61, R65, R66, R68). -/
theorem roundTrip : (i : Instr) → Laws.RoundTrip.Statement i
  | .reset op => Laws.RoundTrip.reset op
  | .enq ts payload => Laws.RoundTrip.enq ts payload
  | .gen present len now => Laws.RoundTrip.gen present len now
  | .ltone0 d4 => Laws.RoundTrip.ltone0 d4
  | .latt0 d4 => Laws.RoundTrip.latt0 d4
  | .ltone1 d4 => Laws.RoundTrip.ltone1 d4
  | .latt1 d4 => Laws.RoundTrip.latt1 d4
  | .ltone2 d4 => Laws.RoundTrip.ltone2 d4
  | .latt2 d4 => Laws.RoundTrip.latt2 d4
  | .lnoise ignored d3 => Laws.RoundTrip.lnoise ignored d3
  | .latt3 d4 => Laws.RoundTrip.latt3 d4
  | .data ignored d6 => Laws.RoundTrip.data ignored d6

/-- Settles O2, by the constructor of the instruction (`roundTrip`). -/
theorem decodeOfEncodeIsTheInstruction : Obligations.DecodeOfEncodeIsTheInstruction := roundTrip

/-- Settles O1: the words are literals, and the decoders compute. -/
theorem specWordsDecodeToTheirRows : Obligations.SpecWordsDecodeToTheirRows := by
  unfold Obligations.SpecWordsDecodeToTheirRows; decide

/-- Encoding the form a byte decodes to gives the byte back: the 256 bytes of the payload map (30_encoding.md R68). -/
theorem encode_decodePayload (b : Byte) : encode (decodePayload b) = .payload b := by
  revert b; decide

/-- The nine rows of the payload map are disjoint and cover the 256 bytes (30_encoding.md R68). -/
theorem payloadRows_countP (b : Byte) :
    ([(0xF0, 0x80), (0xF0, 0x90), (0xF0, 0xA0), (0xF0, 0xB0), (0xF0, 0xC0), (0xF0, 0xD0), (0xF0, 0xE0), (0xF0, 0xF0),
      (0x80, 0x00)].countP (fun row => matches8 row.1 row.2 b)) = 1 := by
  revert b; decide

/-- Settles O3: the two facts about the 256 bytes. -/
theorem payloadRowsPartitionTheBytes : Obligations.PayloadRowsPartitionTheBytes :=
  fun b => ⟨payloadRows_countP b, encode_decodePayload b⟩

/-- The transaction of a command line decodes to the line's instruction (30_encoding.md R61, R72). -/
theorem decodeCommand_lineTransaction (l : Line) : decodeCommand (Machine.lineTransaction l) = Machine.lineInstr l := by
  cases l with
  | reset => exact decodeCommand_of_reset rfl
  | enq ts byte => exact decodeCommand_of_enq rfl rfl
  | gen len now => exact decodeCommand_of_gen rfl rfl
  | genNobuf now => exact decodeCommand_of_gen rfl rfl

/-- Settles O5: the lines by the selector each carries; each mnemonic's byte by its few operands. -/
theorem assemblerLinesDecode : Obligations.AssemblerLinesDecode := by
  refine ⟨decodeCommand_lineTransaction, ?_, ?_, ?_, ?_, ?_, ?_, ?_, ?_, ?_⟩ <;> decide

end Sys2Proof

/-! # What every step keeps -/

namespace Sys2Proof.Machine

/-! ## The step -/

/-- Without a command the step is idle (10_state.md R29). -/
theorem step_of_idle {s : State} (h : s.commands = []) : step s = .next s := by
  simp [step, State.nextCommand, h]

/-- A step runs the instruction that the next command decodes to (00_scope.md R8). -/
theorem step_of_command {s : State} {c : Transaction} {rest : List Transaction} (h : s.commands = c :: rest) :
    step s = exec (decodeCommand c) { s with commands := rest } := by
  simp [step, State.nextCommand, h]

/-- The step under any decode runs a `GEN` with that decode (92_eei_decisions.md D20). -/
theorem stepWith_of_gen (dec : Decoder) {s : State} {c : Transaction} {rest : List Transaction}
    (h : s.commands = c :: rest) (hr : c.resetLine = 0#1) (ho : c.op = 1#1) :
    stepWith dec s = .next (State.gen dec c.present c.len.toNat c.now.toNat { s with commands := rest }) := by
  simp [stepWith, State.nextCommand, h, decodeCommand_of_gen hr ho]

/-- The step is the one with the decode of the device: a `GEN` alone applies a decode (92_eei_decisions.md D20). -/
theorem step_eq_stepWith (s : State) : step s = stepWith s.decoder s := by
  cases hc : s.commands with
  | nil => simp [step, stepWith, State.nextCommand, hc]
  | cons c rest =>
    rcases decodeCommand_cases c with ⟨-, h⟩ | ⟨-, h⟩ | ⟨-, h⟩ <;>
      simp only [step, stepWith, State.nextCommand, hc, h]
    rfl

/-- Settles O6: one equation of the step per clause. -/
theorem stepRunsTheDecodedCommand : Obligations.StepRunsTheDecodedCommand :=
  ⟨fun _ _ _ => step_of_command, fun _ => step_of_idle, step_eq_stepWith, fun dec _ _ _ => stepWith_of_gen dec⟩

/-- Settles O8: an idle step, `RESET` and `GEN` answer a next state, and of the answers of `ENQ` one is the refusal. -/
theorem everyStepAnswersANextState : Obligations.EveryStepAnswersANextState := by
  intro s
  cases hc : s.commands with
  | nil => exact .inl ⟨s, step_of_idle hc⟩
  | cons c rest =>
    rw [step_of_command hc]
    rcases decodeCommand_cases c with ⟨-, hd⟩ | ⟨-, hd⟩ | ⟨-, hd⟩ <;> rw [hd]
    · exact .inl ⟨_, exec_reset ..⟩
    · rw [exec_enq]
      rcases execEnq_cases c.ts.toNat c.payload { s with commands := rest } with
        ⟨code, -, h⟩ | ⟨-, -, h⟩ | ⟨hf, hq, h⟩ | ⟨-, -, -, h⟩
      · exact .inl ⟨_, h⟩
      · exact .inl ⟨_, h⟩
      · exact .inr ⟨h, hq, hf⟩
      · exact .inl ⟨_, h⟩
    · exact .inl ⟨_, exec_gen ..⟩

/-- Settles O9: every answer of the step keeps `cfg`. -/
theorem stepKeepsTheConfiguration : Obligations.StepKeepsTheConfiguration := by
  intro s t h
  rcases step_next_cases h with
    ⟨-, rfl⟩ | ⟨c, rest, u, -, rfl, ⟨-, rfl⟩ | ⟨-, ⟨code, -, rfl⟩ | ⟨-, code, rfl⟩ | ⟨-, -, -, rfl⟩ | ⟨-, -, -, rfl⟩⟩⟩
  · rfl
  · rfl
  · rfl
  · rfl
  · rfl
  · exact generate_cfg ..

/-- Settles O19: with a fault recorded a step is idle, runs `RESET`, or turns the command away. -/
theorem onlyResetClearsAFault : Obligations.OnlyResetClearsAFault := by
  intro s t code hf h
  have habsurd : ∀ {P : Prop}, s.faulted = none → P := fun hn => by rw [hn] at hf; cases hf
  rcases step_next_cases h with
    ⟨-, rfl⟩ | ⟨c, rest, u, hc, rfl, ⟨hr, rfl⟩ | ⟨-, ⟨_, -, rfl⟩ | ⟨hn, -⟩ | ⟨hn, -⟩ | ⟨hn, -⟩⟩⟩
  · exact .inl ⟨hf, rfl, rfl, rfl, rfl, rfl, rfl, rfl, rfl, rfl⟩
  · exact .inr ⟨c, rest, hc, hr, rfl⟩
  · exact .inl ⟨hf, rfl, rfl, rfl, rfl, rfl, rfl, rfl, rfl, rfl⟩
  · exact habsurd hn
  · exact habsurd hn
  · exact habsurd hn

/-! ## What was handed back -/

/-- The frames and the outcome of the command before are replaced, not read (10_state.md R24). -/
theorem exec_decodeCommand_out_response (c : Transaction) (s : State) (frames : List Frame) (outcome : Response) :
    exec (decodeCommand c) { s with out := frames, response := outcome } = exec (decodeCommand c) s := by
  rcases decodeCommand_cases c with ⟨-, h⟩ | ⟨-, h⟩ | ⟨-, h⟩ <;> rw [h] <;> rfl

/-- Settles O11: the command runs on the state without it, where nothing of what was handed back is read. -/
theorem outputIsNeverReadBack : Obligations.OutputIsNeverReadBack := by
  intro s frames outcome hne
  obtain ⟨c, rest, hc⟩ := List.exists_cons_of_ne_nil hne
  have hc' : { s with out := frames, response := outcome }.commands = c :: rest := hc
  rw [step_of_command hc, step_of_command hc']
  exact exec_decodeCommand_out_response c { s with commands := rest } frames outcome

/-! ## The generators -/

/-- The configuration and what the generators hold: what a property of the generators may speak of. -/
def State.generators (s : State) : Config × Vector Int 4 × Vector (BitVec 1) 4 × Nat × Int :=
  (s.cfg, s.countdown, s.level, s.shiftRegister, s.acc)

/-- A property of the generators that `RESET` and `ACC_STEP`, the two operations that write them, keep. -/
structure GeneratorProperty (P : State → Prop) : Prop where
  congr : ∀ {s t : State}, P s → t.generators = s.generators → P t
  construct : ∀ {s : State}, P s → P s.construct
  accStep : ∀ {s : State}, P s → P s.accStep

namespace GeneratorProperty
variable {P : State → Prop}

/-- A pass of the frame loop writes the generators by its `ACC_STEP` alone. -/
theorem framePass (hP : GeneratorProperty P) (dec : Decoder) (w : Window) (i : Nat) {s : State} (h : P s) :
    P (s.framePass dec w i) := by
  have hdrained : P (s.beforeFrame dec w i) := hP.congr h rfl
  exact hP.congr (hP.accStep hdrained) rfl

/-- So does the body of `GEN`, by the loop over its passes. -/
theorem generate (hP : GeneratorProperty P) (dec : Decoder) (len now : Nat) {s : State} (h : P s) :
    P (s.generate dec len now) := by
  have hbegin : P s.begin := hP.congr h rfl
  have hloop := frameLoop_induct dec (s.window len now) P (fun i _ => hP.framePass dec _ i) 0 (len / 2) hbegin
  exact hP.congr hloop rfl

/-- So every step keeps it. -/
theorem step (hP : GeneratorProperty P) {s t : State} (h : P s) (hstep : step s = .next t) : P t := by
  rcases step_next_cases hstep with ⟨-, rfl⟩ | ⟨c, rest, u, -, rfl, hcases⟩
  · exact h
  · have hu : P { s with commands := rest } := hP.congr h rfl
    rcases hcases with ⟨-, rfl⟩ | ⟨-, ⟨code, -, rfl⟩ | ⟨-, code, rfl⟩ | ⟨-, -, -, rfl⟩ | ⟨-, -, -, rfl⟩⟩
    · exact hP.construct hu
    · exact hP.congr hu rfl
    · exact hP.congr hu rfl
    · exact hP.congr hu rfl
    · exact hP.generate _ _ _ hu

end GeneratorProperty

/-! ## The zero seed -/

/-- Noise silenced by a zero seed (43_noise.md R128). -/
structure State.NoiseSilent (s : State) : Prop where
  seed : s.cfg.srInit = 0
  register : s.shiftRegister = 0
  level : s.level[noiseChannel] = 0#1

/-- A shift of the zero register gives the zero register (43_noise.md R128). -/
theorem shiftIn_feed_of_zero {s : State} (h : s.shiftRegister = 0) :
    shiftIn s.cfg.srWidth s.shiftRegister s.feed = 0 := by
  simp [shiftIn, feed_of_zero h, h]

theorem State.NoiseSilent.tick {s : State} (h : s.NoiseSilent) : s.tick.NoiseSilent where
  seed := by rw [tick_cfg, h.seed]
  register := by rw [tick_shiftRegister, State.noiseRegister, shiftIn_feed_of_zero h.register, h.register, ite_self]
  level := by rw [tick_level_noise, State.noiseLevel, shiftIn_feed_of_zero h.register, h.level, ite_self]

theorem State.NoiseSilent.iterate_tick {s : State} (h : s.NoiseSilent) (k : Nat) : (State.tick^[k] s).NoiseSilent :=
  Function.Iterate.rec State.NoiseSilent h (fun _ => State.NoiseSilent.tick) k

theorem noiseSilent_generatorProperty : GeneratorProperty State.NoiseSilent where
  congr := by
    intro s t h e
    simp only [State.generators, Prod.mk.injEq] at e
    obtain ⟨hcfg, -, hlevel, hregister, -⟩ := e
    exact ⟨hcfg ▸ h.seed, hregister ▸ h.register, by rw [hlevel]; exact h.level⟩
  construct h := ⟨h.seed, h.seed, by simp [h.seed]⟩
  accStep := by
    intro s h
    obtain ⟨hseed, hregister, hlevel⟩ := h.iterate_tick s.frameTicks
    rw [accStep_eq]
    exact ⟨hseed, hregister, hlevel⟩

/-- Settles O43: with the seed 0 a zero register and a zero level stay, through a shift and through `RESET`. -/
theorem zeroSeedSilencesTheNoiseChannel : Obligations.ZeroSeedSilencesTheNoiseChannel := by
  intro s t hseed hregister hlevel hstep
  have ht : t.NoiseSilent := noiseSilent_generatorProperty.step ⟨hseed, hregister, hlevel⟩ hstep
  exact ⟨ht.register, ht.level⟩

/-! ## The ranges of the generators -/

/-- The reload value of a tone is 1 to 1023 (42_tone.md R111). -/
theorem toneReload_range (r : Regs) (c : Fin 3) : 1 ≤ r.toneReload c ∧ r.toneReload c ≤ 1023 := by
  have hlt : r.divisor[c].toNat < 1024 := r.divisor[c].isLt
  unfold Regs.toneReload
  split
  · decide
  · rename_i hne
    have hpos : r.divisor[c].toNat ≠ 0 := fun h => hne (BitVec.eq_of_toNat_eq h)
    omega

/-- Every noise reload value is within `maxNoiseReload` (43_noise.md R122). -/
theorem noiseReload_le_max (s : State) : s.noiseReload ≤ s.cfg.maxNoiseReload := by
  have hdivisor : s.regs.divisor[2].toNat < 1024 := s.regs.divisor[2].isLt
  unfold State.noiseReload Config.maxNoiseReload
  split <;> omega

/-- After a step a tone countdown is in its range (42_tone.md R115). -/
theorem toneCount_range {s : State} {c : Fin 3} (h : s.countdown[toneChannel c] ≤ 1022) :
    0 ≤ s.toneCount c ∧ s.toneCount c ≤ 1022 := by
  have hreload := toneReload_range s.regs c
  rcases Int.lt_or_le 0 s.countdown[toneChannel c] with hpos | hexpiry
  · rw [toneCount_of_pos hpos]; omega
  · rw [toneCount_of_nonpos hexpiry]; omega

/-- After a step the noise countdown is in its range (10_state.md R11). -/
theorem noiseCount_range {s : State} (h : s.countdown[noiseChannel] ≤ (s.cfg.maxNoiseReload : Int) - 1) :
    -1 ≤ s.noiseCount ∧ s.noiseCount ≤ (s.cfg.maxNoiseReload : Int) - 1 := by
  have hreload := noiseReload_le_max s
  rcases Int.lt_or_le 0 s.countdown[noiseChannel] with hpos | hexpiry
  · rw [noiseCount_of_pos hpos]; omega
  · rw [noiseCount_of_nonpos hexpiry]; omega

/-- After a step `level[3]` is bit 0 of the register, if it was so before (43_noise.md R131). -/
theorem noiseLevel_eq_bit_zero {s : State} (h : s.level[noiseChannel] = BitVec.ofNat 1 s.shiftRegister) :
    s.noiseLevel = BitVec.ofNat 1 s.noiseRegister := by
  unfold State.noiseLevel State.noiseRegister
  split
  · rfl
  · exact h

/-- After a step the shift register has its width, if it had it before (10_state.md R15). -/
theorem noiseRegister_lt {s : State} (h : s.shiftRegister < 2 ^ s.cfg.srWidth) :
    s.noiseRegister < 2 ^ s.cfg.srWidth := by
  unfold State.noiseRegister
  split
  · exact lfsrShift_lt h
  · exact h

theorem State.GeneratorInv.tick {s : State} (h : s.GeneratorInv) : s.tick.GeneratorInv where
  toneCountdown c := by rw [tick_countdown_tone]; exact toneCount_range (h.toneCountdown c).2
  noiseCountdown := by rw [tick_countdown_noise, tick_cfg]; exact noiseCount_range h.noiseCountdown.2
  acc := by rw [tick_acc]; exact h.acc
  noiseLevel := by rw [tick_level_noise, tick_shiftRegister]; exact noiseLevel_eq_bit_zero h.noiseLevel
  shiftRegister := by rw [tick_shiftRegister, tick_cfg]; exact noiseRegister_lt h.shiftRegister

/-- The ticks that are due leave `acc` in its range (10_state.md R21). -/
theorem accStep_acc_range {s : State} (h : s.acc ≤ 44099) : 0 ≤ s.accStep.acc ∧ s.accStep.acc ≤ 44099 := by
  refine ⟨accStep_acc_nonneg s, ?_⟩
  rw [accStep_eq, setAcc_acc]
  rcases Int.lt_or_le (s.acc - s.cfg.chipClock) 0 with hneg | hnonneg
  · have hlast := (ticksDue_spec _).2 hneg
    rw [State.frameTicks]; omega
  · rw [State.frameTicks, ticksDue_of_nonneg hnonneg]; omega

/-- Every countdown is 0 after reset (10_state.md R34). -/
theorem resetWith_countdown (cfg : Config) (c : Fin 4) : (State.resetWith cfg).countdown[c] = 0 := by
  fin_cases c <;> rfl

theorem resetWith_generatorInv (cfg : Config) : (State.resetWith cfg).GeneratorInv where
  toneCountdown c := by rw [resetWith_countdown]; decide
  noiseCountdown := by
    have hmax : 1023 ≤ cfg.maxNoiseReload := Nat.le_max_left ..
    have hcfg : (State.resetWith cfg).cfg = cfg := rfl
    rw [resetWith_countdown, hcfg]; omega
  acc := ⟨le_rfl, Int.le.intro_sub 44099 rfl⟩
  noiseLevel := rfl
  shiftRegister := by
    obtain ⟨-, -, -, hseed, -⟩ := cfg.valid
    exact hseed

theorem State.GeneratorInv.iterate_tick {s : State} (h : s.GeneratorInv) (k : Nat) : (State.tick^[k] s).GeneratorInv :=
  Function.Iterate.rec State.GeneratorInv h (fun _ => State.GeneratorInv.tick) k

theorem generatorInv_generatorProperty : GeneratorProperty State.GeneratorInv where
  congr := by
    intro s t h e
    simp only [State.generators, Prod.mk.injEq] at e
    obtain ⟨hcfg, hcountdown, hlevel, hregister, hacc⟩ := e
    obtain ⟨htone, hnoise, hrange, hbit, hwidth⟩ := h
    constructor <;> simp only [hcfg, hcountdown, hlevel, hregister, hacc] <;> assumption
  construct {s} _ := by
    obtain ⟨htone, hnoise, hrange, hbit, hwidth⟩ := resetWith_generatorInv s.cfg
    exact ⟨htone, hnoise, hrange, hbit, hwidth⟩
  accStep := by
    intro s h
    have hrange := accStep_acc_range h.acc.2
    obtain ⟨htone, hnoise, -, hbit, hwidth⟩ := h.iterate_tick s.frameTicks
    rw [accStep_eq] at hrange ⊢
    exact ⟨htone, hnoise, hrange, hbit, hwidth⟩

/-- Settles O55: ticks keep the ranges, the ticks that are due bring `acc` back into its own, and nothing but ticks and
`RESET` writes the generators. -/
theorem stepKeepsTheGeneratorInvariant : Obligations.StepKeepsTheGeneratorInvariant :=
  fun _ _ h hstep => generatorInv_generatorProperty.step h hstep

/-! ## The queue -/

/-- The queue invariant speaks of `cfg`, the queue, `lastTs` and `lastSampled` alone. -/
theorem State.QueueInv.congr {s t : State} (h : s.QueueInv) (hcfg : t.cfg = s.cfg) (hqueue : t.queue = s.queue)
    (hlast : t.lastTs = s.lastTs) (hsampled : t.lastSampled = s.lastSampled) : t.QueueInv := by
  obtain ⟨hordered, hbelow, hts, hcycle, hroom⟩ := h
  constructor <;> simp only [hcfg, hqueue, hlast, hsampled] <;> assumption

/-- It holds of an empty queue, whatever the bound, if the cycle counts are in their domain. -/
theorem queueInv_of_empty {s : State} (hqueue : s.queue = [])
    (hts : ∀ last, s.lastTs = some last → last < 2 ^ cycleWidth) (hsampled : s.lastSampled < 2 ^ cycleWidth) :
    s.QueueInv where
  ordered := by rw [hqueue]; exact .nil
  belowLast := by simp [hqueue]
  lastTs := hts
  lastSampled := hsampled
  room := by simp [hqueue]

/-- A queue that is not full has room for one more entry (93_implementation_defined.md U6). -/
theorem length_lt_of_not_full {s : State} (h : s.queueFull = false) {depth : Nat}
    (hdepth : s.cfg.queueDepth = some depth) : s.queue.length < depth := by
  simpa [State.queueFull, hdepth] using h

/-- An accepted `ENQ` appends an entry that is not below any queued one (40_write_queue_sync.md R80, R81). -/
theorem State.QueueInv.push {s : State} (h : s.QueueInv) {ts : Nat} (payload : Byte)
    (hinOrder : ∀ last, s.lastTs = some last → last ≤ ts) (hdomain : ts < 2 ^ cycleWidth)
    (hroom : s.queueFull = false) : (s.push ts payload).QueueInv := by
  have hbelow : ∀ p ∈ s.queue, p.ts ≤ ts := fun p hp => by
    obtain ⟨last, hlast, hle⟩ := h.belowLast p hp
    exact hle.trans (hinOrder last hlast)
  refine ⟨?_, fun p hp => ⟨ts, rfl, ?_⟩, fun last hlast => ?_, h.lastSampled, fun depth hdepth => ?_⟩
  · rw [push_queue]
    refine List.pairwise_append.mpr ⟨h.ordered, List.pairwise_singleton .., fun p hp q hq => ?_⟩
    rw [List.mem_singleton.mp hq]
    exact hbelow p hp
  · rw [push_queue, List.mem_append, List.mem_singleton] at hp
    rcases hp with hp | rfl
    · exact hbelow p hp
    · exact le_rfl
  · rw [push_lastTs, Option.some.injEq] at hlast
    exact hlast ▸ hdomain
  · rw [push_queue, List.length_append, List.length_singleton]
    exact length_lt_of_not_full hroom hdepth

/-- Settles O56: `ENQ` appends in order, `GEN` and `RESET` empty the queue, and nothing else writes it; the cycle counts
come from 64-bit lines. -/
theorem stepKeepsTheQueueInvariant : Obligations.StepKeepsTheQueueInvariant := by
  intro s t h hstep
  rcases step_next_cases hstep with ⟨-, rfl⟩ | ⟨c, rest, u, -, rfl, hcases⟩
  · exact h
  · have hbegin : (State.begin { s with commands := rest }).QueueInv := h.congr rfl rfl rfl rfl
    rcases hcases with ⟨-, rfl⟩ | ⟨-, ⟨code, -, rfl⟩ | ⟨-, code, rfl⟩ | ⟨-, ho, hq, rfl⟩ | ⟨-, -, -, rfl⟩⟩
    · exact queueInv_of_empty rfl (fun _ hlast => by cases hlast) (Nat.two_pow_pos _)
    · exact h.congr rfl rfl rfl rfl
    · exact h.congr rfl rfl rfl rfl
    · exact hbegin.push c.payload ho c.ts.isLt hq
    · refine queueInv_of_empty (generate_queue ..) (fun last hlast => ?_) ?_
      · rw [generate_lastTs] at hlast; exact h.lastTs last hlast
      · rw [generate_lastSampled]; exact c.now.isLt

/-! ## What is handed back -/

/-- A frame as 44_mixer.md R141 and R143 want it: two equal slots, of 0 to `60 * MIX_SCALE`. -/
def Frame.InRange (cfg : Config) (f : Frame) : Prop :=
  f.left = f.right ∧ 0 ≤ f.left.toInt ∧ f.left.toInt ≤ 60 * (cfg.mixScale : Int)

/-- The sample in both slots is such a frame. -/
theorem sample_inRange (s : State) : Frame.InRange s.cfg ⟨s.sample, s.sample⟩ := by
  have hscaled : s.mix * s.cfg.mixScale ≤ 60 * s.cfg.mixScale := Nat.mul_le_mul_right _ (mix_le s)
  refine ⟨rfl, ?_, ?_⟩ <;> rw [sample_toInt]
  · exact Int.natCast_nonneg _
  · exact_mod_cast hscaled

/-- Every frame of a `GEN` is of that form. -/
theorem generate_out_inRange (dec : Decoder) (len now : Nat) (s : State) :
    ∀ f ∈ (s.generate dec len now).out, Frame.InRange s.cfg f := by
  have hloop := frameLoop_induct dec (s.window len now)
    (fun u => u.cfg = s.cfg ∧ ∀ f ∈ u.out, Frame.InRange s.cfg f) (fun i u ⟨hcfg, hout⟩ => ?_) 0 (len / 2)
    (s := s.begin) ⟨rfl, by simp⟩
  · exact hloop.2
  · refine ⟨(framePass_cfg ..).trans hcfg, fun f hf => ?_⟩
    rw [framePass_out, List.mem_append, List.mem_singleton] at hf
    rcases hf with hf | rfl
    · exact hout f hf
    · have hcfg' : (u.beforeFrame dec (s.window len now) i).accStep.cfg = s.cfg := (accStep_cfg _).trans hcfg
      exact hcfg' ▸ sample_inRange _

/-- A state without frames whose outcome is the value of `faulted` meets the output invariant. -/
theorem portInv_of_no_frame {s : State} (hout : s.out = []) (houtcome : s.response.code = s.faultStatus) :
    s.PortInv where
  frames := by simp [hout]
  outcome := houtcome
  silent _ := hout

/-- Settles O57: the frames of a `GEN` are in range, and every other command hands back none; each command sets its
outcome together with `faulted`, or from it. -/
theorem stepKeepsTheOutputInvariant : Obligations.StepKeepsTheOutputInvariant := by
  intro s t h hstep
  rcases step_next_cases hstep with
    ⟨-, rfl⟩ |
    ⟨c, rest, u, -, rfl, ⟨-, rfl⟩ | ⟨-, ⟨code, hf, rfl⟩ | ⟨-, code, rfl⟩ | ⟨hf, -, -, rfl⟩ | ⟨hf, -, -, rfl⟩⟩⟩
  · exact h
  · exact portInv_of_no_frame rfl rfl
  · exact portInv_of_no_frame rfl (by rw [State.faultStatus, turnAway_faulted, hf]; rfl)
  · exact portInv_of_no_frame rfl rfl
  · exact portInv_of_no_frame rfl (faultStatus_of_not_faulted hf).symm
  · have hsafe := (generate_faulted (State.decoder { s with commands := rest }) c.len.toNat c.now.toNat _).trans hf
    refine ⟨?_, ?_, fun hfault => absurd hsafe hfault⟩
    · rw [generate_cfg]; exact generate_out_inRange _ _ _ _
    · rw [generate_response, faultStatus_of_not_faulted hsafe]; rfl

/-! ## After reset -/

theorem resetWith_queueInv (cfg : Config) : (State.resetWith cfg).QueueInv :=
  queueInv_of_empty rfl (fun _ hlast => by cases hlast) (Nat.two_pow_pos _)

theorem resetWith_portInv (cfg : Config) : (State.resetWith cfg).PortInv := portInv_of_no_frame rfl rfl

/-- Settles O58: each invariant holds of the reset state of every configuration, so of that of the device. -/
theorem resetMeetsTheInvariants : Obligations.ResetMeetsTheInvariants := by
  have hall : ∀ cfg : Config, (State.resetWith cfg).GeneratorInv ∧ (State.resetWith cfg).QueueInv ∧
      (State.resetWith cfg).PortInv :=
    fun cfg => ⟨resetWith_generatorInv cfg, resetWith_queueInv cfg, resetWith_portInv cfg⟩
  exact ⟨hall, hall Config.device⟩

end Sys2Proof.Machine

/-! # The schedule of `GEN` -/

namespace Sys2Proof.Machine

/-- Settles O22: each clause is a law of the body of `GEN`, which holds for every decode. -/
theorem genCompletesUnderEveryDecode : Obligations.GenCompletesUnderEveryDecode := by
  intro dec len now s hf hl hn
  rw [gen_of_checked dec hf hl hn]
  exact ⟨generate_out_length .., generate_queue .., generate_regs .., generate_lastSampled ..,
    (generate_faulted ..).trans hf⟩

/-! ## Drains on an ordered queue -/

/-- Behind an entry that is not due no entry of an ordered queue is due (40_write_queue_sync.md R81). -/
theorem not_due_of_ordered {limit : Nat} {p : Pending} {q : List Pending} (hp : p.due limit = false)
    (hordered : ∀ p' ∈ q, p.ts ≤ p'.ts) : ∀ p' ∈ p :: q, p'.due limit = false := by
  rw [due_eq_false_iff] at hp
  refine List.forall_mem_cons.mpr ⟨(due_eq_false_iff ..).mpr hp, fun p' hp' => ?_⟩
  exact (due_eq_false_iff ..).mpr (hp.trans_le (hordered p' hp'))

/-- Settles O25, by induction on the queue: a due head is applied, and behind a head that is not due nothing is. -/
theorem drainAppliesExactlyTheDueWrites : Obligations.DrainAppliesExactlyTheDueWrites := by
  intro dec limit q
  induction q with
  | nil => intro r _; rfl
  | cons p q ih =>
    intro r hordered
    obtain ⟨hhead, htail⟩ := List.pairwise_cons.mp hordered
    cases hp : p.due limit with
    | true => simp [drainDue, hp, ih _ htail]
    | false =>
      have hnone := not_due_of_ordered hp hhead
      have hdue : (p :: q).filter (·.due limit) = [] := List.filter_eq_nil_iff.mpr fun p' h => by simp [hnone p' h]
      have hrest : (p :: q).filter (fun p => !p.due limit) = p :: q :=
        List.filter_eq_self.mpr fun p' h => by simp [hnone p' h]
      rw [hdue, hrest, applyAll_nil]
      simp [drainDue, hp]

/-- A drain after a drain at an earlier limit is one drain at the later limit (40_write_queue_sync.md R87, R89). -/
theorem drainDue_drainDue (dec : Decoder) {limit limit' : Nat} (h : limit ≤ limit') (q : List Pending) (r : Regs) :
    drainDue dec limit' (drainDue dec limit q r).2 (drainDue dec limit q r).1 = drainDue dec limit' q r := by
  induction q generalizing r with
  | nil => rfl
  | cons p q ih =>
    cases hp : p.due limit with
    | true =>
      have hp' : p.due limit' = true := (due_iff ..).mpr (((due_iff ..).mp hp).trans h)
      simp [drainDue, hp, hp', ih]
    | false => simp [drainDue, hp]

/-! ## The offsets -/

/-- The offset does not decrease with the frame (40_write_queue_sync.md R89). -/
theorem offset_mono {i j : Nat} (h : i ≤ j) (elapsed n : Nat) : offset i elapsed n ≤ offset j elapsed n :=
  Nat.div_le_div_right (Nat.mul_le_mul_right elapsed h)

/-- The offset of a frame stays within the window (40_write_queue_sync.md R89). -/
theorem offset_le {i n : Nat} (h : i < n) (elapsed : Nat) : offset i elapsed n ≤ elapsed :=
  Nat.div_le_of_le_mul (Nat.mul_le_mul_right elapsed h.le)

/-- The last frame's offset leaves the ceiling of `elapsed / N` of the window (40_write_queue_sync.md R89). -/
theorem offset_last {n : Nat} (hn : 1 ≤ n) (elapsed : Nat) :
    offset (n - 1) elapsed n + (elapsed + n - 1) / n = elapsed := by
  obtain ⟨m, rfl⟩ := Nat.exists_eq_add_of_le' hn
  rw [← Nat.add_assoc, Nat.add_sub_cancel, Nat.add_sub_cancel]
  generalize hceil : (elapsed + m) / (m + 1) = ceil
  have hlow : ceil * (m + 1) ≤ elapsed + m := hceil ▸ Nat.div_mul_le_self ..
  have hhigh : elapsed + m < (m + 1) * (ceil + 1) := hceil ▸ Nat.lt_mul_div_succ _ m.succ_pos
  obtain ⟨left, rfl⟩ : ∃ left, elapsed = left + ceil := Nat.exists_eq_add_of_le' (by nlinarith)
  have hoffset : offset m (left + ceil) (m + 1) = left := by
    refine Nat.div_eq_of_lt_le ?_ ?_ <;> nlinarith
  rw [hoffset]

/-- Settles O27: the bounds of the natural quotient, and `offset_last` for the largest value. -/
theorem offsetDistributesTheWindow : Obligations.OffsetDistributesTheWindow := by
  intro elapsed n hn
  refine ⟨fun i => ⟨Nat.div_mul_le_self .., ?_⟩, fun i j h => offset_mono h elapsed n,
    fun i h => offset_le h elapsed, by simp [offset], offset_last hn elapsed⟩
  rw [Nat.mul_comm _ n]
  exact Nat.lt_mul_div_succ _ hn

/-! ## The frames of a `GEN` -/

/-- After the passes before frame `i`, a drain at a later position gives what it would have given at the start: the
drains of the passes were all at earlier positions (40_write_queue_sync.md R89). -/
theorem drainDue_frameLoop (dec : Decoder) (w : Window) (limit i : Nat) (s : State)
    (hlimit : ∀ j < i, w.startCycle + offset j w.elapsed w.frames ≤ limit) :
    drainDue dec limit (s.frameLoop dec w 0 i).queue (s.frameLoop dec w 0 i).regs =
      drainDue dec limit s.queue s.regs := by
  induction i with
  | zero => rfl
  | succ i ih =>
    rw [frameLoop_succ_last, Nat.zero_add, framePass_queue, framePass_regs, State.beforeFrame, drain_queue, drain_regs,
      drainDue_drainDue dec (hlimit i i.lt_succ_self), ih fun j hj => hlimit j (hj.trans i.lt_succ_self)]

/-- The registers and the queue in which frame `i` is synthesized: the drain at its offset, as from the start. -/
theorem beforeFrame_frameLoop (dec : Decoder) (w : Window) (i : Nat) (s : State) :
    (((s.frameLoop dec w 0 i).beforeFrame dec w i).regs, ((s.frameLoop dec w 0 i).beforeFrame dec w i).queue) =
      drainDue dec (w.startCycle + offset i w.elapsed w.frames) s.queue s.regs := by
  have hearlier : ∀ j < i, w.startCycle + offset j w.elapsed w.frames ≤ w.startCycle + offset i w.elapsed w.frames :=
    fun j hj => Nat.add_le_add_left (offset_mono hj.le ..) _
  rw [← drainDue_frameLoop dec w _ i s hearlier]
  rfl

/-- Frame `i` of the loop is what its own pass emits; later passes append behind it. -/
theorem frameLoop_out_getElem? (dec : Decoder) (w : Window) {i k : Nat} (h : i < k) {s : State} (hout : s.out = []) :
    (s.frameLoop dec w 0 k).out[i]? =
      some ⟨((s.frameLoop dec w 0 i).beforeFrame dec w i).accStep.sample,
        ((s.frameLoop dec w 0 i).beforeFrame dec w i).accStep.sample⟩ := by
  have hlength : (s.frameLoop dec w 0 i).out.length = i := by simp [frameLoop_out_length, hout]
  have hpass := frameLoop_succ_last dec w 0 i s
  rw [Nat.zero_add] at hpass
  have hprefix : (s.frameLoop dec w 0 (i + 1)).out <+: (s.frameLoop dec w 0 k).out := by
    obtain ⟨later, rfl⟩ := Nat.exists_eq_add_of_le h
    rw [frameLoop_add dec w 0 i.succ later]
    exact frameLoop_out_prefix ..
  rw [hpass, framePass_out] at hprefix
  obtain ⟨rest, hrest⟩ := hprefix
  rw [← hrest]
  simp [hlength]

/-- Settles O24: frame `i` is synthesized after the drain at its offset (`beforeFrame_frameLoop`), which on an ordered
queue applies exactly the due writes (O25). -/
theorem writesAreVisibleFromTheirFrameOn : Obligations.WritesAreVisibleFromTheirFrameOn := by
  intro len now i s hf hl hn hi hordered
  have hdrained := beforeFrame_frameLoop s.decoder (s.window len now) i s.begin
  rw [begin_queue, begin_regs, drainAppliesExactlyTheDueWrites _ _ _ _ hordered, Prod.mk.injEq] at hdrained
  obtain ⟨hregs, hqueue⟩ := hdrained
  refine ⟨_, _, exec_gen_of_checked hf hl hn, hregs, ?_, ⟨_, rfl, rfl⟩, ?_⟩
  · rw [hqueue]
    exact List.filter_congr fun p _ => (decide_not (p := p.ts ≤ _)).symm
  · exact frameLoop_out_getElem? s.decoder (s.window len now) hi rfl

/-! ## With no write pending -/

/-- With no write pending the body of `GEN` is its frames and the counter sample (40_write_queue_sync.md R92). -/
theorem generate_of_empty (dec : Decoder) (len now : Nat) {s : State} (h : s.queue = []) :
    s.generate dec len now = (State.frame^[len / 2] s.begin).setLastSampled now := by
  have hloop := frameLoop_of_empty dec (s.window len now) 0 (len / 2) (s := s.begin) h
  have hqueue : (State.frame^[len / 2] s.begin).queue = [] :=
    Function.Iterate.rec (fun u : State => u.queue = []) (a := s.begin) h (fun u hu => (frame_queue u).trans hu) _
  rw [← hloop] at hqueue ⊢
  exact congrArg (State.setLastSampled · now) (drainAll_of_empty dec hqueue)

/-- The answer of a checked `GEN` with no write pending. -/
theorem eq_of_exec_gen_of_empty {len now : Nat} {s t : State} (hf : s.faulted = none) (hqueue : s.queue = [])
    (hl : len % 2 = 0) (hn : s.lastSampled ≤ now) (h : exec (.gen 1#1 len now) s = .next t) :
    t = (State.frame^[len / 2] s.begin).setLastSampled now := by
  rw [exec_gen_of_checked hf hl hn, generate_of_empty _ _ _ hqueue] at h
  exact (Host.Outcome.next.inj h).symm

/-- Settles O29: the elapsed cycles stand in the drains alone, so without a write only the counter sample differs. -/
theorem ticksDoNotDependOnElapsedCycles : Obligations.TicksDoNotDependOnElapsedCycles := by
  intro len now₁ now₂ s t₁ t₂ hf hqueue hl hn₁ hn₂ h₁ h₂
  rw [eq_of_exec_gen_of_empty hf hqueue hl hn₁ h₁, eq_of_exec_gen_of_empty hf hqueue hl hn₂ h₂]
  rfl

/-- The state with earlier frames put before its own and another counter sample: what a call
before this one leaves of itself. -/
def State.precededBy (s : State) (earlier : List Frame) (sampled : Nat) : State :=
  { s with out := earlier ++ s.out, lastSampled := sampled }

/-- A tick reads neither earlier frames nor the counter sample. -/
theorem tick_precededBy (s : State) (earlier : List Frame) (sampled : Nat) :
    (s.precededBy earlier sampled).tick = s.tick.precededBy earlier sampled := by
  have htone : ∀ (u : State) (c : Fin 3),
      (u.precededBy earlier sampled).toneStep c = (u.toneStep c).precededBy earlier sampled :=
    fun u c => by rw [toneStep_eq, toneStep_eq]; rfl
  have hnoise : ∀ u : State, (u.precededBy earlier sampled).noiseStep = u.noiseStep.precededBy earlier sampled :=
    fun u => by rw [noiseStep_eq, noiseStep_eq]; rfl
  simp only [State.tick, htone, hnoise]

/-- A frame reads neither earlier frames nor the counter sample (41_tick_accumulator.md R104). -/
theorem frame_precededBy (earlier : List Frame) (sampled : Nat) (s : State) :
    (s.precededBy earlier sampled).frame = s.frame.precededBy earlier sampled := by
  have hticks : ∀ k, State.tick^[k] (s.precededBy earlier sampled) =
      (State.tick^[k] s).precededBy earlier sampled := fun k =>
    (Function.Semiconj.iterate_right (f := fun u : State => u.precededBy earlier sampled)
      (fun u => (tick_precededBy u earlier sampled).symm) k s).symm
  have hacc : (s.precededBy earlier sampled).accStep = s.accStep.precededBy earlier sampled := by
    rw [accStep_eq, accStep_eq, State.frameTicks, State.frameTicks, hticks]; rfl
  rw [State.frame, State.frame, hacc]
  exact State.ext_fields rfl rfl rfl rfl rfl rfl rfl rfl rfl rfl rfl rfl (List.append_assoc ..) rfl

/-- So the frames of a call do not depend on what was handed back before. -/
theorem iterate_frame_precededBy (earlier : List Frame) (sampled k : Nat) (s : State) :
    State.frame^[k] (s.precededBy earlier sampled) = (State.frame^[k] s).precededBy earlier sampled :=
  (Function.Semiconj.iterate_right (f := fun u : State => u.precededBy earlier sampled)
    (fun u => (frame_precededBy earlier sampled u).symm) k s).symm

/-- Frames leave the outcome and the status with which the command began. -/
theorem iterate_frame_keeps (k : Nat) (s : State) :
    (State.frame^[k] s).response = s.response ∧ (State.frame^[k] s).faulted = s.faulted ∧
      (State.frame^[k] s).queue = s.queue :=
  Function.Iterate.rec
    (fun u : State => u.response = s.response ∧ u.faulted = s.faulted ∧ u.queue = s.queue) ⟨rfl, rfl, rfl⟩
    (fun u ⟨hresponse, hfaulted, hqueue⟩ =>
      ⟨(frame_response u).trans hresponse, (frame_faulted u).trans hfaulted, (frame_queue u).trans hqueue⟩) k

/-- Settles O28: the frames of the one call are those of the first and, from where it stopped, those of the second. -/
theorem splittingACallChangesNothing : Obligations.SplittingACallChangesNothing := by
  intro len₁ len₂ now₁ now₂ s t₁ t₂ t hf hqueue hl₁ hl₂ hn₁ hn₂ h₁ h₂ h
  have ht := eq_of_exec_gen_of_empty hf hqueue (by omega) (hn₁.trans hn₂) h
  have ht₁ := eq_of_exec_gen_of_empty hf hqueue hl₁ hn₁ h₁
  obtain ⟨hresponse, hfaulted, hempty⟩ := iterate_frame_keeps (len₁ / 2) s.begin
  have ht₂ := eq_of_exec_gen_of_empty (s := t₁) (by rw [ht₁]; exact hfaulted.trans hf)
    (by rw [ht₁]; exact hempty.trans hqueue) hl₂ (by rw [ht₁]; exact hn₂) h₂
  have hresume : State.frame^[len₁ / 2] s.begin =
      t₁.begin.precededBy t₁.out (State.frame^[len₁ / 2] s.begin).lastSampled := by
    rw [ht₁]
    exact State.ext_fields rfl rfl rfl rfl rfl rfl rfl rfl rfl rfl rfl rfl (List.append_nil _).symm hresponse
  have hcount : (len₁ + len₂) / 2 = len₂ / 2 + len₁ / 2 := by omega
  rw [ht, hcount, Function.iterate_add_apply, hresume, iterate_frame_precededBy, ht₂]
  rfl

/-- With all attenuations 15 every channel has weight 0, so the mix is 0 (44_mixer.md R145). -/
theorem sample_of_silenced {s : State} (h : ∀ c : Fin 4, s.regs.attenuation[c] = 15) : s.sample = 0 := by
  have hcontribution : ∀ c, s.contribution c = 0 := fun c => by simp [State.contribution, Regs.weight, h c]
  simp [State.sample, State.mix, hcontribution]

/-- A silenced state emits a zero frame: its ticks leave the attenuations. -/
theorem frame_of_silenced {s : State} (h : ∀ c : Fin 4, s.regs.attenuation[c] = 15) :
    s.frame.out = s.out ++ [⟨0, 0⟩] := by
  have hsample : s.accStep.sample = 0 := sample_of_silenced (by rw [accStep_regs]; exact h)
  rw [frame_out, hsample]

/-- Settles O47: without a write the attenuations stay 15 through the frames; a `GEN` that fails its checks emits
none. -/
theorem silencedChannelsGiveZeroFrames : Obligations.SilencedChannelsGiveZeroFrames := by
  intro len now s t hf hqueue hsilenced h
  rw [exec_gen] at h
  obtain rfl := Host.Outcome.next.inj h
  rcases gen_cases s.decoder 1#1 len now s with ⟨code, -, e⟩ | ⟨-, -, e⟩ | ⟨-, -, -, e⟩ | ⟨-, -, -, e⟩ <;> rw [e]
  · simp
  · simp
  · simp
  · rw [generate_of_empty _ _ _ hqueue]
    have hframes := Function.Iterate.rec
      (fun u : State => u.regs = s.regs ∧ ∀ f ∈ u.out, f = ⟨0, 0⟩) (a := s.begin) ⟨rfl, by simp⟩
      (f := State.frame) (fun u ⟨hregs, hout⟩ => ⟨(frame_regs u).trans hregs, fun f hmem => ?_⟩) (len / 2)
    · exact hframes.2
    · rw [frame_of_silenced (by rw [hregs]; exact hsilenced), List.mem_append, List.mem_singleton] at hmem
      exact hmem.elim (hout f) id

end Sys2Proof.Machine

/-! # Ticks: the accumulator and the generators over many ticks -/

namespace Sys2Proof.Machine

/-! ## The number of ticks -/

/-- Settles O31: the ticks of a frame are those due at `acc - CHIP_CLOCK` (`accStep_eq`), bounded by `ticksDue_spec`. -/
theorem ticksOfOneFrame : Obligations.TicksOfOneFrame := by
  intro s
  obtain ⟨henough, hneeded⟩ := ticksDue_spec (s.acc - s.cfg.chipClock)
  refine ⟨s.frameTicks, accStep_eq s, fun h => ticksDue_of_nonneg (by omega), fun h => ?_⟩
  have hlast := hneeded (by omega)
  unfold State.frameTicks
  constructor <;> omega

/-- One frame more needs the ticks that bring the total to the next ceiling (41_tick_accumulator.md R102). -/
theorem ticksDue_add_ceil (total clock : Nat) :
    ticksDue (44100 * ((total + 44099) / 44100 : Nat) - (total : Nat) - clock) + (total + 44099) / 44100 =
      (total + clock + 44099) / 44100 := by
  simp only [ticksDue, sampleRate]; omega

/-- Settles O32, by induction on the frames: a frame ticks from the ceiling of the total before to that after. -/
theorem ticksAfterManyFrames : Obligations.TicksAfterManyFrames := by
  intro s frames hacc
  induction frames with
  | zero =>
    have hself : s.setAcc 0 = s := by simpa only [hacc] using setAcc_self s
    simp [hself]
  | succ frames ih =>
    have hticks := ticksDue_add_ceil (frames * s.cfg.chipClock) s.cfg.chipClock
    rw [Function.iterate_succ_apply', ih, accStep_eq, State.frameTicks]
    simp only [setAcc_acc, setAcc_cfg, iterate_tick_cfg, iterate_tick_setAcc, setAcc_setAcc]
    rw [← Function.iterate_add_apply, hticks, Nat.succ_mul, ← hticks]
    congr 1
    push_cast
    ring

/-! ## One tick -/

/-- The steps of two tone channels commute: each writes its own channel and reads nothing of the other. -/
theorem toneStep_comm (s : State) (c d : Fin 3) : (s.toneStep c).toneStep d = (s.toneStep d).toneStep c := by
  by_cases h : c = d
  · rw [h]
  · have hne : (toneChannel c : Nat) ≠ (toneChannel d : Nat) := fun e => h (Fin.ext e)
    rw [toneStep_eq (s.toneStep c) d, toneStep_eq (s.toneStep d) c, toneLevel_toneStep_ne s h,
      toneCount_toneStep_ne s h, toneLevel_toneStep_ne s (Ne.symm h), toneCount_toneStep_ne s (Ne.symm h),
      toneStep_eq s c, toneStep_eq s d]
    simp only [Vector.set_comm _ _ hne]

/-- A noise step leaves the countdown that a tone step computes. -/
theorem toneCount_noiseStep (s : State) (c : Fin 3) : s.noiseStep.toneCount c = s.toneCount c := by
  simp only [State.toneCount, State.expired, noiseStep_countdown_tone, noiseStep_regs]; rfl

/-- A noise step leaves the level that a tone step computes. -/
theorem toneLevel_noiseStep (s : State) (c : Fin 3) : s.noiseStep.toneLevel c = s.toneLevel c := by
  simp only [State.toneLevel, State.expired, noiseStep_countdown_tone, noiseStep_level_tone]; rfl

/-- The step of a tone channel and that of the noise channel commute. -/
theorem noiseStep_toneStep (s : State) (c : Fin 3) : (s.toneStep c).noiseStep = s.noiseStep.toneStep c := by
  have hne : (toneChannel c : Nat) ≠ (noiseChannel : Nat) := fun e => toneChannel_ne_noise c (Fin.ext e)
  rw [noiseStep_eq (s.toneStep c), toneStep_eq s.noiseStep c, noiseCount_toneStep, noiseLevel_toneStep,
    noiseRegister_toneStep, noiseParity_toneStep, toneCount_noiseStep, toneLevel_noiseStep, toneStep_eq s c,
    noiseStep_eq s]
  simp only [Vector.set_comm _ _ hne]

/-- Settles O33: what a tick leaves in each channel is what the channel's own step leaves, and any two steps commute. -/
theorem tickAdvancesAllFourChannels : Obligations.TickAdvancesAllFourChannels := by
  refine ⟨fun s c => ⟨?_, ?_⟩, fun s => ⟨?_, ?_, ?_, ?_⟩, toneStep_comm, noiseStep_toneStep⟩
  · rw [tick_countdown_tone, toneStep_countdown]; exact (Vector.getElem_set_self _).symm
  · rw [tick_level_tone, toneStep_level]; exact (Vector.getElem_set_self _).symm
  · rw [tick_countdown_noise, noiseStep_countdown]; exact (Vector.getElem_set_self _).symm
  · rw [tick_level_noise, noiseStep_level]; exact (Vector.getElem_set_self _).symm
  · rw [tick_shiftRegister, noiseStep_shiftRegister]
  · rw [tick_tickParity, noiseStep_tickParity]

/-! ## Tones over many ticks -/

section Tone
variable {s : State} {c : Fin 3}

/-- The half-period of a tone: `R` ticks from an expiry on, the level is the flipped one and the countdown falls from
`R - 1` to 0 (42_tone.md R112). -/
theorem tone_halfPeriod (h : s.countdown[toneChannel c] ≤ 0) {k : Nat} (hk : k < s.regs.toneReload c) :
    (State.tick^[k + 1] s).countdown[toneChannel c] = (s.regs.toneReload c : Int) - 1 - k ∧
      (State.tick^[k + 1] s).level[toneChannel c] = s.level[toneChannel c] ^^^ 1#1 := by
  induction k with
  | zero =>
    rw [Function.iterate_one, tick_countdown_tone, tick_level_tone, toneCount_of_nonpos h, toneLevel_of_nonpos h]
    exact ⟨by simp, rfl⟩
  | succ k ih =>
    obtain ⟨hcount, hlevel⟩ := ih (by omega)
    have hpos : 0 < (State.tick^[k + 1] s).countdown[toneChannel c] := by omega
    rw [Function.iterate_succ_apply', tick_countdown_tone, tick_level_tone, toneCount_of_pos hpos,
      toneLevel_of_pos hpos, hcount, hlevel]
    exact ⟨by omega, rfl⟩

end Tone

/-- Flipping twice gives the level back. -/
theorem flip_flip (b : BitVec 1) : b ^^^ 1#1 ^^^ 1#1 = b := by rw [BitVec.xor_assoc, BitVec.xor_self, BitVec.xor_zero]

/-- Settles O36: the half-period, and at its end the countdown is 0, so the next tick is an expiry. -/
theorem toneHalfPeriodIsTheReloadValue : Obligations.ToneHalfPeriodIsTheReloadValue := by
  intro s c h
  refine ⟨fun k hk => tone_halfPeriod h hk, ?_⟩
  obtain ⟨hreload, -⟩ := toneReload_range s.regs c
  obtain ⟨last, hlast⟩ := Nat.exists_eq_add_of_le' hreload
  obtain ⟨hcount, hlevel⟩ := tone_halfPeriod h (k := last) (by omega)
  have hexpiry : (State.tick^[last + 1] s).countdown[toneChannel c] ≤ 0 := by omega
  rw [hlast, Function.iterate_succ_apply', tick_level_tone, toneLevel_of_nonpos hexpiry, hlevel, flip_flip]

/-- Toggling once more than `n` times is toggling `n + 1` times. -/
theorem flip_ofNat_succ (b : BitVec 1) (n : Nat) : b ^^^ BitVec.ofNat 1 n ^^^ 1#1 = b ^^^ BitVec.ofNat 1 (n + 1) := by
  rw [BitVec.xor_assoc]
  congr 1
  rcases Nat.mod_two_eq_zero_or_one n with h | h <;>
    exact BitVec.eq_of_toNat_eq (by simp [Nat.add_mod, h])

/-- Settles O37, by induction on the ticks: the reload value is 1, so the countdown is 0 after each expiry again. -/
theorem divisorZeroBehavesAsOne : Obligations.DivisorZeroBehavesAsOne := by
  intro s c n hdivisor hcount
  have hreload : s.regs.toneReload c = 1 := by
    rcases hdivisor with h | h <;> simp only [Regs.toneReload, h] <;> rfl
  induction n with
  | zero => exact ⟨hcount, (BitVec.xor_zero ..).symm⟩
  | succ n ih =>
    obtain ⟨hzero, hlevel⟩ := ih
    have hexpiry : (State.tick^[n] s).countdown[toneChannel c] ≤ 0 := hzero.le
    rw [Function.iterate_succ_apply', tick_countdown_tone, tick_level_tone, toneCount_of_nonpos hexpiry,
      toneLevel_of_nonpos hexpiry, hlevel, iterate_tick_regs, hreload, flip_ofNat_succ]
    exact ⟨rfl, rfl⟩

/-- Settles O13: the reset state has all divisors 0, so O37 applies, from the level 0. -/
theorem resetStateFlipsAllTonesEveryTick : Obligations.ResetStateFlipsAllTonesEveryTick := by
  intro cfg n c
  have hdivisor : (State.resetWith cfg).regs.divisor[c] = 0 := by fin_cases c <;> rfl
  have hlevel : (State.resetWith cfg).level[toneChannel c] = 0 := by fin_cases c <;> rfl
  obtain ⟨hcount, hparity⟩ := divisorZeroBehavesAsOne (State.resetWith cfg) c n (.inl hdivisor) (resetWith_countdown ..)
  rw [hparity, hlevel]
  exact ⟨BitVec.zero_xor .., hcount⟩

/-! ## Noise over many ticks -/

section Noise
variable {s : State}

/-- Ticks leave the noise reload value: they write neither the registers nor the configuration. -/
theorem noiseReload_iterate_tick (k : Nat) : (State.tick^[k] s).noiseReload = s.noiseReload := by
  simp only [State.noiseReload, iterate_tick_regs, iterate_tick_cfg]

/-- A noise step without an expiry leaves the register. -/
theorem noiseRegister_of_pos (h : 0 < s.countdown[noiseChannel]) : s.noiseRegister = s.shiftRegister :=
  if_neg fun hshift => Int.not_le.mpr h (noiseShifts_iff.mp hshift).1

/-- An expiry that toggles `tickParity` to the active phase shifts (43_noise.md R123). -/
theorem noiseRegister_of_open (h : s.countdown[noiseChannel] ≤ 0) (hopen : s.tickParity ^^^ 1#1 = s.cfg.parityActive) :
    s.noiseRegister = s.lfsrShift.shiftRegister :=
  if_pos (noiseShifts_iff.mpr ⟨h, hopen⟩)

/-- An expiry that toggles `tickParity` away from the active phase does not (43_noise.md R123). -/
theorem noiseRegister_of_closed (hclosed : s.tickParity ^^^ 1#1 ≠ s.cfg.parityActive) :
    s.noiseRegister = s.shiftRegister :=
  if_neg fun hshift => hclosed (noiseShifts_iff.mp hshift).2

/-- The time between two expiries: `R` ticks from an expiry on, the register and `tickParity` are those the expiry
left and the countdown falls from `R - 1` to 0 (43_noise.md R124). -/
theorem noise_betweenExpiries (h : s.countdown[noiseChannel] ≤ 0) {k : Nat} (hk : k < s.noiseReload) :
    (State.tick^[k + 1] s).shiftRegister = s.noiseRegister ∧
      (State.tick^[k + 1] s).tickParity = s.tickParity ^^^ 1#1 ∧
      (State.tick^[k + 1] s).countdown[noiseChannel] = (s.noiseReload : Int) - 1 - k := by
  induction k with
  | zero =>
    rw [Function.iterate_one, tick_shiftRegister, tick_tickParity, tick_countdown_noise, noiseParity_of_nonpos h,
      noiseCount_of_nonpos h]
    exact ⟨rfl, rfl, by simp⟩
  | succ k ih =>
    obtain ⟨hregister, hparity, hcount⟩ := ih (by omega)
    have hpos : 0 < (State.tick^[k + 1] s).countdown[noiseChannel] := by omega
    rw [Function.iterate_succ_apply', tick_shiftRegister, tick_tickParity, tick_countdown_noise,
      noiseRegister_of_pos hpos, noiseParity_of_pos hpos, noiseCount_of_pos hpos, hregister, hparity, hcount]
    exact ⟨rfl, rfl, by omega⟩

/-- `R` ticks after an expiry the next one is due, with the register and `tickParity` that the first left. -/
theorem noise_nextExpiry (hreload : 1 ≤ s.noiseReload) (h : s.countdown[noiseChannel] ≤ 0) :
    (State.tick^[s.noiseReload] s).shiftRegister = s.noiseRegister ∧
      (State.tick^[s.noiseReload] s).tickParity = s.tickParity ^^^ 1#1 ∧
      (State.tick^[s.noiseReload] s).countdown[noiseChannel] ≤ 0 := by
  obtain ⟨last, hlast⟩ := Nat.exists_eq_add_of_le' hreload
  obtain ⟨hregister, hparity, hcount⟩ := noise_betweenExpiries h (k := last) (by omega)
  rw [hlast]
  exact ⟨hregister, hparity, by omega⟩

end Noise

/-- A toggle that follows the one into the active phase leaves it. -/
theorem toggle_ne {b p : BitVec 1} (h : b ^^^ 1#1 = p) : b ^^^ 1#1 ^^^ 1#1 ≠ p := by
  subst h; revert b; decide

/-- A shift depends on the register, the registers and the configuration alone. -/
theorem lfsrShift_shiftRegister_congr {s t : State} (hcfg : s.cfg = t.cfg) (hregs : s.regs = t.regs)
    (hregister : s.shiftRegister = t.shiftRegister) : s.lfsrShift.shiftRegister = t.lfsrShift.shiftRegister := by
  simp only [lfsrShift_shiftRegister, State.feed, hcfg, hregs, hregister]

/-- Settles O44: three expiries `R` ticks apart, of which the first and the third shift (`noise_nextExpiry`), and the
ticks between them (`noise_betweenExpiries`). -/
theorem noiseShiftsEverySecondExpiry : Obligations.NoiseShiftsEverySecondExpiry := by
  intro s hreload hexpiry hopen
  have hfirst := noiseRegister_of_open hexpiry hopen
  obtain ⟨hregister₂, hparity₂, hexpiry₂⟩ := noise_nextExpiry hreload hexpiry
  have hreload₂ := noiseReload_iterate_tick (s := s) s.noiseReload
  have hcfg₂ := iterate_tick_cfg s s.noiseReload
  have hregs₂ := iterate_tick_regs s s.noiseReload
  generalize hs₂ : State.tick^[s.noiseReload] s = s₂ at hregister₂ hparity₂ hexpiry₂ hreload₂ hcfg₂ hregs₂
  have hsecond : s₂.noiseRegister = s.lfsrShift.shiftRegister := by
    rw [noiseRegister_of_closed (by rw [hparity₂, hcfg₂]; exact toggle_ne hopen), hregister₂, hfirst]
  obtain ⟨hregister₃, hparity₃, hexpiry₃⟩ := noise_nextExpiry (hreload₂ ▸ hreload) hexpiry₂
  have hcfg₃ := iterate_tick_cfg s₂ s₂.noiseReload
  have hregs₃ := iterate_tick_regs s₂ s₂.noiseReload
  have hs₃ : State.tick^[2 * s.noiseReload] s = State.tick^[s₂.noiseReload] s₂ := by
    rw [hreload₂, ← hs₂, ← Function.iterate_add_apply, two_mul]
  refine ⟨fun k hk => ?_, ?_⟩
  · rcases Nat.lt_or_ge k s.noiseReload with hlt | hge
    · obtain ⟨hregister, -, hcount⟩ := noise_betweenExpiries hexpiry hlt
      rw [hregister, hfirst, hcount, Nat.mod_eq_of_lt hlt]
      exact ⟨rfl, rfl⟩
    · obtain ⟨k', rfl⟩ := Nat.exists_eq_add_of_le' hge
      have hlt : k' < s.noiseReload := by omega
      obtain ⟨hregister, -, hcount⟩ := noise_betweenExpiries hexpiry₂ (hreload₂.symm ▸ hlt)
      have hsplit : State.tick^[k' + s.noiseReload + 1] s = State.tick^[k' + 1] s₂ := by
        rw [← hs₂, ← Function.iterate_add_apply]; congr 1; omega
      rw [hsplit, hregister, hsecond, hcount, hreload₂, Nat.add_mod_right, Nat.mod_eq_of_lt hlt]
      exact ⟨rfl, rfl⟩
  · rw [Function.iterate_succ_apply', hs₃, tick_shiftRegister,
      noiseRegister_of_open hexpiry₃ (by rw [hparity₃, hparity₂, flip_flip, hcfg₃, hcfg₂, hopen])]
    refine lfsrShift_shiftRegister_congr ?_ ?_ (hregister₃.trans hsecond)
    · rw [hcfg₃, hcfg₂, lfsrShift_cfg]
    · rw [hregs₃, hregs₂, lfsrShift_regs]

/-- Settles O45, by induction on the ticks: a countdown at or below 0 expires, and the reload value 0 leaves -1. -/
theorem noiseReloadZeroExpiresEveryTick : Obligations.NoiseReloadZeroExpiresEveryTick := by
  intro s n hreload hexpiry
  induction n with
  | zero =>
    rw [Function.iterate_one, tick_countdown_noise, tick_tickParity, noiseCount_of_nonpos hexpiry,
      noiseParity_of_nonpos hexpiry, hreload]
    exact ⟨rfl, rfl⟩
  | succ n ih =>
    obtain ⟨hcount, hparity⟩ := ih
    have hexpiry' : (State.tick^[n + 1] s).countdown[noiseChannel] ≤ 0 := by rw [hcount]; decide
    rw [Function.iterate_succ_apply', tick_countdown_noise, tick_tickParity, noiseCount_of_nonpos hexpiry',
      noiseParity_of_nonpos hexpiry', noiseReload_iterate_tick, hreload, hparity, flip_ofNat_succ]
    exact ⟨rfl, rfl⟩

/-! ## The fold -/

theorem fold_width_zero (v : Nat) : fold 0 v = 0#1 := rfl

/-- The fold of a value is that of its low part and that of the bits above. -/
theorem fold_add (w k v : Nat) : fold (w + k) v = fold w v ^^^ fold k (v >>> w) := by
  induction k with
  | zero => rw [Nat.add_zero, fold_width_zero, BitVec.xor_zero]
  | succ k ih => rw [← Nat.add_assoc, fold_succ, fold_succ, ih, Nat.testBit_shiftRight, BitVec.xor_assoc]

/-- `FOLD` is linear over XOR (43_noise.md R126). -/
theorem fold_xor (w u v : Nat) : fold w (u ^^^ v) = fold w u ^^^ fold w v := by
  induction w with
  | zero => simp only [fold_width_zero, BitVec.xor_zero]
  | succ w ih =>
    rw [fold_succ, fold_succ, fold_succ, ih, Nat.testBit_xor, ← BitVec.ofBool_xor_ofBool]
    ac_rfl

/-- A single bit folds to 1 when it is below the width, and else is not seen (43_noise.md R126). -/
theorem fold_two_pow (w j : Nat) : fold w (2 ^ j) = BitVec.ofBool (decide (j < w)) := by
  induction w with
  | zero => rfl
  | succ w ih =>
    rw [fold_succ, ih, Nat.testBit_two_pow, BitVec.ofBool_xor_ofBool]
    congr 1
    rcases Nat.lt_trichotomy j w with h | rfl | h
    · simp [h, h.ne, Nat.lt_succ_of_lt h]
    · simp
    · simp [h.ne', Nat.not_lt.mpr h.le, Nat.not_lt.mpr (Nat.succ_le_of_lt h)]

/-- Settles O41: by induction on the width, one bit at a time. -/
theorem foldIsLinear : Obligations.FoldIsLinear :=
  ⟨fold_xor, fun w j h => by rw [fold_two_pow, decide_eq_true h]; rfl⟩

/-- Bits above the value do not count. -/
theorem fold_of_lt {w w' v : Nat} (hw : w ≤ w') (hv : v < 2 ^ w) : fold w' v = fold w v := by
  obtain ⟨k, rfl⟩ := Nat.exists_eq_add_of_le hw
  rw [fold_add, Nat.shiftRight_eq_zero _ _ hv, fold_zero, BitVec.xor_zero]

/-- `k` halvings fold the `2^k` low bits into bit 0: each folds the upper half onto the lower (43_noise.md R126). -/
theorem ofNat_halve (k v : Nat) : BitVec.ofNat 1 (halve k v) = fold (2 ^ k) v := by
  induction k generalizing v with
  | zero =>
    have hbit : fold 1 v = _ := fold_succ 0 v
    rw [fold_width_zero, BitVec.zero_xor] at hbit
    rw [halve, ofNat_one_eq, pow_zero, ← hbit]
  | succ k ih => rw [halve, ih, fold_xor, ← fold_add, pow_succ, mul_two]

/-- Settles O40: the halvings fold a power of two of bits, of which those above the width are 0. -/
theorem halvingFoldIsParity : Obligations.HalvingFoldIsParity := by
  intro w v _ hv
  rw [foldByHalving, ofNat_halve, fold_of_lt (Nat.le_pow_clog one_lt_two w) hv]

/-! ## Periodic noise -/

/-- The periodic generator between shifts: the register has its width and the noise type is periodic. -/
structure State.Periodic (s : State) : Prop where
  width : s.shiftRegister < 2 ^ s.cfg.srWidth
  periodic : s.regs.ntype = 0#1

theorem State.Periodic.lfsrShift {s : State} (h : s.Periodic) : s.lfsrShift.Periodic where
  width := lfsrShift_lt h.width
  periodic := h.periodic

/-- A periodic shift rotates the register to the right by one place (43_noise.md R127). -/
theorem lfsrShift_testBit_of_periodic {s : State} (h : s.Periodic) {j : Nat} (hj : j < s.cfg.srWidth) :
    s.lfsrShift.shiftRegister.testBit j = s.shiftRegister.testBit ((j + 1) % s.cfg.srWidth) := by
  rcases Nat.lt_or_ge (j + 1) s.cfg.srWidth with hlow | htop
  · rw [Nat.mod_eq_of_lt hlow, lfsrShift_shiftRegister, shiftIn_testBit_low _ _ hlow]
  · have hwidth : s.cfg.srWidth = j + 1 := by omega
    have hbit := lfsrShift_testBit_top h.width
    rw [feed_of_periodic h.periodic, ofNat_one_testBit_zero, hwidth, Nat.add_sub_cancel] at hbit
    rw [hbit, hwidth, Nat.mod_self]

section Periodic
variable {s : State} (h : s.Periodic)
include h

/-- `k` shifts stay periodic noise of the same device. -/
theorem iterate_lfsrShift_periodic (k : Nat) :
    (State.lfsrShift^[k] s).Periodic ∧ (State.lfsrShift^[k] s).cfg = s.cfg :=
  Function.Iterate.rec (fun u : State => u.Periodic ∧ u.cfg = s.cfg) ⟨h, rfl⟩
    (fun u ⟨hu, hcfg⟩ => ⟨hu.lfsrShift, (lfsrShift_cfg u).trans hcfg⟩) k

/-- `k` shifts rotate the register by `k` places (43_noise.md R127). -/
theorem iterate_lfsrShift_testBit {k j : Nat} (hj : j < s.cfg.srWidth) :
    (State.lfsrShift^[k] s).shiftRegister.testBit j = s.shiftRegister.testBit ((j + k) % s.cfg.srWidth) := by
  induction k generalizing j with
  | zero => rw [Nat.add_zero, Nat.mod_eq_of_lt hj]; rfl
  | succ k ih =>
    obtain ⟨hperiodic, hcfg⟩ := iterate_lfsrShift_periodic h k
    rw [Function.iterate_succ_apply', lfsrShift_testBit_of_periodic hperiodic (hcfg.symm ▸ hj), hcfg,
      ih (Nat.mod_lt _ (Nat.zero_lt_of_lt hj)), Nat.mod_add_mod]
    congr 2; omega

/-- After a shift `level[3]` is bit 0 of the rotated register. -/
theorem iterate_lfsrShift_level {k : Nat} (hk : 1 ≤ k) :
    (State.lfsrShift^[k] s).level[noiseChannel] = BitVec.ofBool (s.shiftRegister.testBit (k % s.cfg.srWidth)) := by
  obtain ⟨-, hwidth, -⟩ := s.cfg.valid
  have hbit := iterate_lfsrShift_testBit h (k := k) hwidth
  obtain ⟨last, rfl⟩ := Nat.exists_eq_add_of_le' hk
  rw [Nat.zero_add] at hbit
  rw [← hbit, ← ofNat_one_eq, Function.iterate_succ_apply']
  exact Vector.getElem_set_self _

/-- `W_SR` shifts bring the register back (43_noise.md R127). -/
theorem iterate_lfsrShift_srWidth : (State.lfsrShift^[s.cfg.srWidth] s).shiftRegister = s.shiftRegister := by
  refine Nat.eq_of_testBit_eq fun j => ?_
  rcases Nat.lt_or_ge j s.cfg.srWidth with hlt | hge
  · rw [iterate_lfsrShift_testBit h hlt, Nat.add_mod_right, Nat.mod_eq_of_lt hlt]
  · obtain ⟨hperiodic, hcfg⟩ := iterate_lfsrShift_periodic h s.cfg.srWidth
    have hpow : 2 ^ s.cfg.srWidth ≤ 2 ^ j := Nat.pow_le_pow_right two_pos hge
    have hwidth := hperiodic.width
    rw [hcfg] at hwidth
    rw [Nat.testBit_lt_two_pow (hwidth.trans_le hpow), Nat.testBit_lt_two_pow (h.width.trans_le hpow)]

end Periodic

/-- Settles O42: `k` shifts are a rotation by `k` places, and `level[3]` is the bit that stands at 0 then. -/
theorem periodicNoiseIsARotation : Obligations.PeriodicNoiseIsARotation := by
  intro s hwidth htype
  have h : s.Periodic := ⟨hwidth, htype⟩
  refine ⟨fun k j hj => iterate_lfsrShift_testBit h hj, iterate_lfsrShift_srWidth h, fun k hk => ?_,
    fun m k hm hbit hk => ?_⟩
  · rw [iterate_lfsrShift_level h hk, iterate_lfsrShift_level h (hk.trans (Nat.le_add_right ..)), Nat.add_mod_right]
  · rw [iterate_lfsrShift_level h hk, hbit, Nat.testBit_two_pow]
    by_cases he : m = k % s.cfg.srWidth <;> simp [he, eq_comm]

end Sys2Proof.Machine

/-! # Register writes: the nine forms, the pseudo-instructions, the contract -/

namespace Sys2Proof.Machine

/-! ## The two formats of a byte -/

/-- The LATCH byte of a channel, a kind and a nibble (30_encoding.md R65). -/
def latchByte (ch : BitVec 2) (type : BitVec 1) (d4 : BitVec 4) : Byte := 1#1 ++ (ch ++ (type ++ d4))

/-- The fields of a LATCH byte are what it was put together from. -/
theorem latchByte_fields (ch : BitVec 2) (type : BitVec 1) (d4 : BitVec 4) :
    isLatch (latchByte ch type d4) = true ∧ latchChannel (latchByte ch type d4) = ch ∧
      latchKind (latchByte ch type d4) = type ∧ Byte.d4 (latchByte ch type d4) = d4 := by
  revert ch type d4; decide

/-- A LATCH byte sets the latch and writes the register it names (45_register_write.md R155). -/
theorem defaultWrite_latchByte (ch : BitVec 2) (type : BitVec 1) (d4 : BitVec 4) (r : Regs) :
    defaultWrite (latchByte ch type d4) r = (r.setLatch ch type).writeLatched d4 (selectReg ch type) := by
  obtain ⟨hlatch, hch, htype, hd4⟩ := latchByte_fields ch type d4
  rw [defaultWrite, if_pos hlatch, hch, htype, hd4]

/-- The fields of a DATA byte (30_encoding.md R66). -/
theorem dataByte_fields (ignored : BitVec 1) (d6 : BitVec 6) :
    isLatch (0#1 ++ (ignored ++ d6)) = false ∧ Byte.d6 (0#1 ++ (ignored ++ d6)) = d6 := by
  revert ignored d6; decide

/-- A DATA byte writes the register that the latch names (45_register_write.md R155). -/
theorem defaultWrite_dataByte (ignored : BitVec 1) (d6 : BitVec 6) (r : Regs) :
    defaultWrite (0#1 ++ (ignored ++ d6)) r = r.writeData d6 (selectReg r.latchCh r.latchType) := by
  obtain ⟨hdata, hd6⟩ := dataByte_fields ignored d6
  rw [defaultWrite, hdata, hd6]
  rfl

/-- Kind 0 on a tone channel selects its divisor (10_state.md R31). -/
theorem selectReg_tone (c : Fin 3) : selectReg (BitVec.ofNat 2 c) 0 = .divisor c := by revert c; decide

/-- A LATCH byte of a tone channel writes the low nibble of its divisor (45_register_write.md R157 to R159). -/
theorem defaultWrite_latchTone (c : Fin 3) (d4 : BitVec 4) (r : Regs) :
    defaultWrite (latchByte (BitVec.ofNat 2 c) 0 d4) r = (r.setLatch (BitVec.ofNat 2 c) 0).setDivisorLow c d4 := by
  rw [defaultWrite_latchByte, selectReg_tone]; rfl

/-- A LATCH byte of kind 1 writes the attenuation of its channel (45_register_write.md R161 to R164). -/
theorem defaultWrite_latchAttenuation (c : Fin 4) (a : BitVec 4) (r : Regs) :
    defaultWrite (latchByte (BitVec.ofNat 2 c) 1 a) r = (r.setLatch (BitVec.ofNat 2 c) 1).setAttenuation c a := by
  have hselect : selectReg (BitVec.ofNat 2 c) 1 = .attenuation c := by revert c; decide
  rw [defaultWrite_latchByte, hselect]; rfl

/-- A LATCH byte of the noise register writes `controlBits` (45_register_write.md R160). -/
theorem defaultWrite_latchNoise (d4 : BitVec 4) (r : Regs) :
    defaultWrite (latchByte 3 0 d4) r = (r.setLatch 3 0).setControl (d4.extractLsb' 0 3) := by
  rw [defaultWrite_latchByte]; rfl

/-! ## `APPLY` and the nine forms -/

/-- A form that latches a tone register answers what `APPLY` of its byte gives. -/
theorem latchTone_eq_apply (c : Fin 3) (d4 : BitVec 4) (s : State) :
    s.latchTone c d4 = s.apply defaultDecode (latchByte (BitVec.ofNat 2 c) 0 d4) := by
  rw [State.apply, defaultDecode_write, defaultWrite_latchTone]; rfl

/-- A form that latches an attenuation answers what `APPLY` of its byte gives. -/
theorem latchAttenuation_eq_apply (c : Fin 4) (d4 : BitVec 4) (s : State) :
    s.latchAttenuation c d4 = s.apply defaultDecode (latchByte (BitVec.ofNat 2 c) 1 d4) := by
  rw [State.apply, defaultDecode_write, defaultWrite_latchAttenuation]; rfl

/-- The meaning of a payload form is `APPLY` of the byte that encodes it (45_register_write.md R166). -/
theorem exec_eq_apply_of_encode {i : Instr} {b : Byte} (h : encode i = .payload b) (s : State) :
    exec i s = .next (s.apply defaultDecode b) := by
  cases i with
  | reset | enq | gen => cases h
  | ltone0 d4 => cases h; rw [exec_ltone0, latchTone_eq_apply]; congr 2; revert d4; decide
  | ltone1 d4 => cases h; rw [exec_ltone1, latchTone_eq_apply]; congr 2; revert d4; decide
  | ltone2 d4 => cases h; rw [exec_ltone2, latchTone_eq_apply]; congr 2; revert d4; decide
  | latt0 d4 => cases h; rw [exec_latt0, latchAttenuation_eq_apply]; congr 2; revert d4; decide
  | latt1 d4 => cases h; rw [exec_latt1, latchAttenuation_eq_apply]; congr 2; revert d4; decide
  | latt2 d4 => cases h; rw [exec_latt2, latchAttenuation_eq_apply]; congr 2; revert d4; decide
  | latt3 d4 => cases h; rw [exec_latt3, latchAttenuation_eq_apply]; congr 2; revert d4; decide
  | lnoise ignored d3 =>
    cases h
    have hbyte : 0xE#4 ++ (ignored ++ d3) = latchByte 3 0 (ignored ++ d3) := by revert ignored d3; decide
    have hd3 : (ignored ++ d3).extractLsb' 0 3 = d3 := by revert ignored d3; decide
    rw [exec_lnoise, State.apply, defaultDecode_write, hbyte, defaultWrite_latchNoise, hd3]
  | data ignored d6 => cases h; rw [exec_data, State.apply, defaultDecode_write, defaultWrite_dataByte]

/-- Settles O52: every byte encodes the form it decodes to (O3), and the form's meaning is `APPLY` of that byte. -/
theorem applyAgreesWithTheNineForms : Obligations.ApplyAgreesWithTheNineForms :=
  fun b s => ⟨decodePayload_isPayload b, exec_eq_apply_of_encode (encode_decodePayload b) s⟩

/-! ## Pseudo-instructions -/

/-- The mnemonic of a tone register is a LATCH byte of kind 0 (30_encoding.md R72). -/
theorem payloadByte_ltone (c : Fin 3) (d : BitVec 4) :
    payloadByte (.ltone c d) = latchByte (BitVec.ofNat 2 c) 0 d := by revert c d; decide

/-- The mnemonic of an attenuation is a LATCH byte of kind 1 (30_encoding.md R72). -/
theorem payloadByte_latt (c : Fin 4) (d : BitVec 4) :
    payloadByte (.latt c d) = latchByte (BitVec.ofNat 2 c) 1 d := by revert c d; decide

/-- The mnemonic of data is a DATA byte (30_encoding.md R72). -/
theorem payloadByte_data (ignored : BitVec 1) (d6 : BitVec 6) :
    payloadByte (.data (ignored ++ d6)) = 0#1 ++ (ignored ++ d6) := by revert ignored d6; decide

/-- The mnemonic of the noise register is a LATCH byte of channel 3, kind 0 (30_encoding.md R72). -/
theorem payloadByte_lnoise (d : BitVec 4) : payloadByte (.lnoise d) = latchByte 3 0 d := by revert d; decide

/-- The operand of `NOISE`: the flag above the rate (30_encoding.md R73). -/
theorem noiseOperand_eq (w : BitVec 1) (rate : BitVec 2) :
    BitVec.ofNat 4 (4 * w.toNat + rate.toNat) = 0#1 ++ (w ++ rate) := by revert w rate; decide

/-- The byte of `NOISE` as one sum (30_encoding.md R72, R73). -/
theorem payloadByte_noise (w : BitVec 1) (rate : BitVec 2) :
    payloadByte (.lnoise (BitVec.ofNat 4 (4 * w.toNat + rate.toNat))) =
      BitVec.ofNat 8 (0xE0 + 4 * w.toNat + rate.toNat) := by revert w rate; decide

/-- The low nibble and the upper six bits of a divisor, written one after the other, make the whole of it
(30_encoding.md R67). -/
theorem withHighSix_withLowNibble (old d : BitVec 10) :
    withHighSix (withLowNibble old (d.extractLsb' 0 4)) (d.extractLsb' 4 6) = d := by
  have hlow : (withLowNibble old (d.extractLsb' 0 4)).extractLsb' 0 4 = d.extractLsb' 0 4 :=
    BitVec.extractLsb'_append_eq_right
  have hwhole : d.extractLsb' 4 6 ++ d.extractLsb' 0 4 = d.extractLsb' 0 10 :=
    BitVec.extractLsb'_append_extractLsb'_eq_extractLsb' rfl
  rw [withHighSix, hlow, hwhole, BitVec.extractLsb'_eq_self]

/-- Latching a tone register and then writing data leaves the whole divisor and the latch. -/
theorem writeTone_eq (c : Fin 3) (d : BitVec 10) (r : Regs) :
    ((r.setLatch (BitVec.ofNat 2 c) 0).setDivisorLow c (d.extractLsb' 0 4)).setDivisorHigh c (d.extractLsb' 4 6) =
      { r with latchCh := BitVec.ofNat 2 c, latchType := 0, divisor := r.divisor.set c d } := by
  simp [Regs.setDivisorHigh, Regs.setDivisorLow, Regs.setLatch, withHighSix_withLowNibble]

/-- Settles O54: the LATCH byte names the divisor that the DATA byte then completes. -/
theorem toneExpansionWritesTheWholeDivisor : Obligations.ToneExpansionWritesTheWholeDivisor := by
  intro ts c d r
  refine ⟨rfl, ?_⟩
  rw [applyAll_cons, applyAll_cons, applyAll_nil, defaultDecode_write, payloadByte_ltone, payloadByte_data,
    defaultWrite_latchTone, defaultWrite_dataByte, setDivisorLow_latchCh, setDivisorLow_latchType, setLatch_latchCh,
    setLatch_latchType, selectReg_tone, ← writeTone_eq c d r]
  rfl

/-- `VOL`: the byte of an attenuation writes it and the latch (30_encoding.md R73). -/
theorem defaultWrite_latt (c : Fin 4) (a : BitVec 4) (r : Regs) :
    defaultWrite (payloadByte (.latt c a)) r =
      { r with latchCh := BitVec.ofNat 2 c, latchType := 1, attenuation := r.attenuation.set c a } := by
  rw [payloadByte_latt, defaultWrite_latchAttenuation]; rfl

/-- `NOISE`: the byte of the noise flag and rate writes `controlBits` and the latch (30_encoding.md R73). -/
theorem defaultWrite_noise (w : BitVec 1) (rate : BitVec 2) (r : Regs) :
    defaultWrite (payloadByte (.lnoise (BitVec.ofNat 4 (4 * w.toNat + rate.toNat)))) r =
      { r with latchCh := 3, latchType := 0, controlBits := w ++ rate } := by
  have hcontrol : (0#1 ++ (w ++ rate)).extractLsb' 0 3 = w ++ rate := BitVec.extractLsb'_append_eq_right
  rw [payloadByte_lnoise, noiseOperand_eq, defaultWrite_latchNoise, hcontrol]; rfl

/-- Writing all four attenuations leaves nothing of the old ones. -/
theorem set_all_attenuations (v : Vector (BitVec 4) 4) (a : BitVec 4) :
    (((v.set 0 a).set 1 a).set 2 a).set 3 a = #v[a, a, a, a] := by
  ext c hc
  interval_cases c <;> simp

/-- `SILENCE`: its four bytes write 15 to the four attenuations (30_encoding.md R73). -/
theorem applyAll_silence (ts : Nat) (r : Regs) :
    applyAll defaultDecode [⟨ts, payloadByte (.latt 0 15)⟩, ⟨ts, payloadByte (.latt 1 15)⟩,
      ⟨ts, payloadByte (.latt 2 15)⟩, ⟨ts, payloadByte (.latt 3 15)⟩] r =
      { r with latchCh := 3, latchType := 1, attenuation := #v[15, 15, 15, 15] } := by
  rw [← set_all_attenuations r.attenuation 15]
  simp only [applyAll_cons, applyAll_nil, defaultDecode_write, defaultWrite_latt]
  rfl

/-- Settles O60: one lemma on the write of each expansion; the expansions themselves compute. -/
theorem volNoiseSilenceExpandToTheirWrites : Obligations.VolNoiseSilenceExpandToTheirWrites := by
  intro ts r
  refine ⟨fun c a => ⟨rfl, defaultWrite_latt c a r⟩, fun w rate => ?_, rfl, applyAll_silence ts.toNat r⟩
  rw [← payloadByte_noise]
  exact ⟨rfl, defaultWrite_noise w rate r⟩

/-! ## The contract -/

/-- Registers are equal when the decode's own state and each register are. -/
theorem Regs.ext_own {r r' : Regs} (hown : r.own = r'.own) (hdivisor : ∀ c : Fin 3, r.divisor[c] = r'.divisor[c])
    (hattenuation : ∀ c : Fin 4, r.attenuation[c] = r'.attenuation[c]) (hcontrol : r.controlBits = r'.controlBits) :
    r = r' := by
  have hdivisors : r.divisor = r'.divisor := Vector.ext fun c hc => hdivisor ⟨c, hc⟩
  have hattenuations : r.attenuation = r'.attenuation := Vector.ext fun c hc => hattenuation ⟨c, hc⟩
  cases r
  cases r'
  simp_all [Regs.own]

/-- A function that meets the contract is its own confined part (45_register_write.md R154). -/
theorem confine_eq_of_contract {f : Byte → Regs → Regs} (h : DecodeContract f) : confine f = f := by
  funext b r
  refine Regs.ext_own ?_ (fun c => ?_) (fun c => ?_) ?_
  · rw [confine_own]; exact (h b).own _ _ rfl
  · rw [confine_divisor]; exact (h b).divisor _ _ c rfl (by simp [Regs.view])
  · rw [confine_attenuation]; exact (h b).attenuation _ _ c rfl (by simp [Regs.view])
  · rw [confine_controlBits]; exact (h b).controlBits _ _ rfl rfl

/-- A list of writes, applied in order, is confined as each of them is. -/
theorem applyAll_confined (dec : Decoder) (writes : List Pending) : Confined (applyAll dec writes) := by
  induction writes with
  | nil => exact ⟨fun _ _ h => h, fun _ _ _ _ e => e, fun _ _ _ _ e => e, fun _ _ _ e => e⟩
  | cons p writes ih => exact ih.comp (dec.contract p.payload)

/-- Settles O59: every `Decoder` carries its contract, `confine` answers what meets it and changes nothing that does,
and the decode of a device is the one its configuration names. -/
theorem everyDecodeMeetsTheContract : Obligations.EveryDecodeMeetsTheContract := by
  refine ⟨defaultWrite_contract, fun s => s.decoder.contract, fun f => ⟨confine_eq_of_contract, fun h => ?_⟩,
    applyAll_confined, fun s h => ?_, fun s n h => ?_, rfl⟩
  · exact h ▸ confine_contract f
  · rw [decoder_of_standard h, defaultDecode_write]
  · rw [decoder_of_other h, openDecoder_write]

/-! ## A placed word -/

/-- A table word below 4 is a selector, whatever its width (log entry 6). -/
theorem tableWire_selector {w : Nat} (h : w < 4) : ∃ c, tableWire 2 w = .ok (.command c) := by
  interval_cases w <;> exact ⟨_, rfl⟩

/-- A byte from 4 on is a payload (log entry 6). -/
theorem tableWire_payload {w : Nat} (hlow : 4 ≤ w) (hhigh : w < 256) :
    tableWire 8 w = .ok (.payload (BitVec.ofNat 8 w)) := by
  rw [tableWire, if_neg (by decide), if_neg (by omega), if_neg (by omega), if_neg (by decide)]

theorem decodeTableWord_of_ok {nbits w : Nat} {wire : Wire} (h : tableWire nbits w = .ok wire) :
    decodeTableWord nbits w = some (decode wire) := by
  rw [decodeTableWord, h]

theorem withFetchWord_of_ok {nbits w : Nat} {wire : Wire} (h : tableWire nbits w = .ok wire) (s : State) :
    s.withFetchWord nbits w = s.placeWire wire := by
  rw [State.withFetchWord, h]

/-- A placed command is run next, and the state is then without it. -/
theorem step_placeWire_command (c : Transaction) (s : State) :
    step (s.placeWire (.command c)) = exec (decode (.command c)) s := rfl

/-- The command that drains a placed byte is a `GEN` of no frame at the present counter value (log entry 7). -/
theorem decodeCommand_drainingCommand {s : State} (h : s.lastSampled < 2 ^ cycleWidth) :
    decodeCommand (drainingCommand s) = .gen 1#1 0 s.lastSampled := by
  have hnow : (drainingCommand s).now.toNat = s.lastSampled := Nat.mod_eq_of_lt h
  rw [decodeCommand_of_gen rfl rfl, hnow]; rfl

/-- A placed byte is applied by the next step and by nothing else (log entry 7). -/
theorem step_placeWire_payload (b : Byte) {s : State} (h : s.lastSampled < 2 ^ cycleWidth) :
    step (s.placeWire (.payload b)) = .next { s with
      regs := s.decoder.write b s.regs
      queue := [], lastTs := some (s.lastTs.getD 0), faulted := none, out := [], response := .completed } := by
  have hcommands : (s.placeWire (.payload b)).commands = drainingCommand s :: s.commands := rfl
  rw [step_of_command hcommands, decodeCommand_drainingCommand h]
  exact exec_gen_of_checked rfl rfl le_rfl

/-- Settles O7: a selector is placed as a command, a byte as the one entry that a draining `GEN` applies; under the
default decode `APPLY` of the byte is the meaning of its form (O52). -/
theorem placedWordIsRunByTheNextStep : Obligations.PlacedWordIsRunByTheNextStep := by
  refine ⟨fun s w hw => ?_, fun s w hlow hhigh hsampled => ?_⟩
  · obtain ⟨c, hwire⟩ := tableWire_selector hw
    exact ⟨_, decodeTableWord_of_ok hwire, by rw [withFetchWord_of_ok hwire, step_placeWire_command]⟩
  · have hwire := tableWire_payload hlow hhigh
    rw [withFetchWord_of_ok hwire, step_placeWire_payload _ hsampled]
    refine ⟨rfl, fun hstandard => ⟨_, _, decodeTableWord_of_ok hwire, (applyAgreesWithTheNineForms _ s).2, ?_⟩⟩
    rw [decoder_of_standard hstandard]
    rfl

end Sys2Proof.Machine

/-! # Configurations, reset, and single commands -/

namespace Sys2Proof

/-- The check refuses exactly the parameters that break a constraint (70_reset_and_hazards.md R211). -/
theorem Config.ofParams_eq_none_iff (p : Params) : Config.ofParams p = none ↔ ¬ p.Valid := by
  unfold Config.ofParams
  split <;> simp_all

/-- A configuration is given back by its parameters. -/
theorem Config.ofParams_toParams (c : Config) : Config.ofParams c.toParams = some c := dif_pos c.valid

/-- Settles O10: the check decides `Params.Valid`, which every configuration carries. -/
theorem configurationOutsideConstraintsIsRefused : Obligations.ConfigurationOutsideConstraintsIsRefused :=
  ⟨Config.ofParams_eq_none_iff, fun c => ⟨c.ofParams_toParams, c.valid⟩⟩

namespace Machine

/-- Settles O12: `RESET` answers the constructed state, whose fields have their laws; the vectors are literals. -/
theorem resetGivesEveryElementItsResetValue : Obligations.ResetGivesEveryElementItsResetValue := by
  intro op s
  refine ⟨s.construct, exec_reset op s, fun c => ?_, resetWith_countdown s.cfg, fun c => ?_, fun c => ?_, rfl, rfl,
    construct_shiftRegister s, construct_tickParity s, construct_queue s, construct_lastTs s, construct_lastSampled s,
    construct_acc s, rfl, rfl, rfl, faultStatus_of_not_faulted (construct_faulted s), construct_cfg s,
    construct_commands s, construct_out s, construct_response s⟩ <;>
  fin_cases c <;> rfl

/-- A finite queue that holds its bound is full (93_implementation_defined.md U6). -/
theorem queueFull_of_length {s : State} {depth : Nat} (hdepth : s.cfg.queueDepth = some depth)
    (hlength : depth ≤ s.queue.length) : s.queueFull = true := by
  simpa [State.queueFull, hdepth] using hlength

/-- Settles O15: an `ENQ` in order reaches the test of the queue, which is full. -/
theorem enqOnAFullFiniteQueueIsRefused : Obligations.EnqOnAFullFiniteQueueIsRefused := by
  intro ts depth payload s hf ho hdepth hlength
  rw [exec_enq, execEnq]
  simp [hf, outOfOrder_of_ge ho, queueFull_of_length hdepth hlength]

/-- Settles O34: the laws of a frame, one per field. -/
theorem framesChangeNoRegister : Obligations.FramesChangeNoRegister := fun s =>
  ⟨frame_regs s, frame_queue s, frame_lastTs s, frame_lastSampled s, frame_faulted s, frame_cfg s, frame_commands s,
    frame_response s, frame_out s⟩

end Machine

end Sys2Proof
